-- ==== Sys2Proof/Word.lean ====
section
/-! DEFINITION. The two word types of the block: a byte of a stream or buffer, and a 32-bit register value
(00_scope.md R4: every value is unsigned). -/

namespace Sys2Proof

/-- An 8-bit byte, 0..255 (00_scope.md R4). -/
abbrev Byte := BitVec 8

/-- A 32-bit value of the host register port (00_scope.md R3, 20_memory.md R73). -/
abbrev Word := BitVec 32

end Sys2Proof
end

