-- ==== Sys2Proof/Config.lean ====
section
/-! DEFINITION. What the spec fixes once for the block (00_scope.md R3), and what it leaves free. A free value is an opaque
constant with no body: nothing can be proved of it, so a claim about a run holds for every value of it
(93_implementation_defined.md, treatments `any value` and `parameter`). -/

namespace Sys2Proof.Config

/-- The ID register's constant, "SK" and edition 7 (10_state.md R24). -/
def idValue : Word := 0x534B0007#32

/-- The default of CONFIG.MAX_ATTEMPTS (10_state.md R27, R47). -/
def defaultAttempts : BitVec 8 := 3#8

/-- The default of CONFIG.IRR_BOUND (10_state.md R27, R47). -/
def defaultBound : BitVec 8 := 5#8

/-- The preamble bytes (30_encoding.md R100). -/
def preamble1 : Byte := 0xA0#8

/-- The second preamble byte (30_encoding.md R100). -/
def preamble2 : Byte := 0xA1#8

/-- The end marker's bytes (30_encoding.md R100). -/
def marker1 : Byte := 0x0D#8

/-- The second end-marker byte (30_encoding.md R100). -/
def marker2 : Byte := 0x0A#8

/-- The identifier of an ACK frame, hardwired (30_encoding.md R106, 92 D39). -/
def ackId : Byte := 0x83#8

/-- The identifier of a NACK frame, hardwired (30_encoding.md R106, 92 D39). -/
def nackId : Byte := 0x84#8

/-- Bytes in the register window (00_scope.md R3). -/
def windowSize : Nat := 64

/-- Bytes in TX_BUF (10_state.md R40). -/
def txBufSize : Nat := 65536

/-- Bytes in RX_BUF (10_state.md R41). -/
def rxBufSize : Nat := 65538

/-- BASE in units of the window's size: the parameter BASE is OPEN, a multiple of 64 (00_scope.md R3; log entry 10). -/
opaque baseBlock : Nat

/-- The parameter BASE (00_scope.md R3). -/
def base : Nat := windowSize * baseBlock

/-- The parameter IRQ_LINE, OPEN: the platform's number of the line `irq` drives (60_exceptions.md R283; log entry 10). -/
opaque irqLine : Nat

/-- FREE VALUE: what TX_BUF's byte at an index holds while nothing has written it since draw `epoch`
(93 I4: any value, drawn once at power-on and stable; 93 I5: redrawn by a host write in reset; log entries 3 and 5). -/
opaque txRam (epoch index : Nat) : Byte

/-- FREE VALUE: what RX_BUF's byte at an index holds while nothing has written it since power-on (93 I4; log entry 3). -/
opaque rxRam (index : Nat) : Byte

/-- FREE VALUE: the byte the n-th draw returns for a read of RX_DATA while BUSY = 1 (93 I2; log entry 4). -/
opaque busyByte (n : Nat) : Byte

/-- FREE VALUE: the word the n-th draw returns for a host read while the reset input is asserted (93 I5; log entry 5). -/
opaque resetWord (n : Nat) : Word

/-- FREE VALUE: `tx_data` where no byte of a frame is on offer (93 I6; log entry 11). -/
opaque idleTxData (n : Nat) : Byte

end Sys2Proof.Config
end

