-- ==== Sys2Proof/Syntax.lean ====
section
/-! DEFINITION. The instructions: one constructor for each row of spec/opcode_table.json, in the table's order, and the names
the encodings use. The rows come in four formats: BUS (a host access, 30_encoding.md R114), CMD (the data word of a CMD
write, R110), WIRE (a whole frame, R100) and FRAME_ID (the identifier the sequencer classifies, 43_sequencer.md R237). -/

namespace Sys2Proof

/-- The direction of a host access (30_encoding.md R114). -/
inductive Dir where
  | read
  | write
deriving DecidableEq, Repr

/-- The words of the register window, in offset order (10_state.md R20, 30_encoding.md R116). -/
inductive Reg where
  | id
  | cmd
  | status
  | config
  | txLen
  | txIndex
  | txData
  | rxLen
  | rxIndex
  | rxData
  | attempts
  | irrCount
  | rxPos
  | txPos
  | state
  | reserved3C
deriving DecidableEq, Repr

/-- The four formats of the opcode table (its `format` column). -/
inductive Format where
  | bus
  | cmd
  | wire
  | frameId
deriving DecidableEq, Repr

/-- The block's instructions, a constructor per row of the opcode table. A read has no operand, a write has the value `v`
written. A CMD row keeps the ignored bits [31:4] as `hi`, and a reserved row the OP bits its mask leaves free. -/
inductive Instr where
  /-- RD_ID: READ at 0x00 (40_host_access.md R131). -/
  | rdId
  /-- WR_ID: WRITE at 0x00 (40_host_access.md R132). -/
  | wrId (v : Word)
  /-- RD_CMD: READ at 0x04 (40_host_access.md R133). -/
  | rdCmd
  /-- WR_CMD: WRITE at 0x04 (40_host_access.md R134). -/
  | wrCmd (v : Word)
  /-- RD_STATUS: READ at 0x08 (40_host_access.md R136). -/
  | rdStatus
  /-- WR_STATUS: WRITE at 0x08 (40_host_access.md R138). -/
  | wrStatus (v : Word)
  /-- RD_CONFIG: READ at 0x0C (40_host_access.md R139). -/
  | rdConfig
  /-- WR_CONFIG: WRITE at 0x0C (40_host_access.md R140). -/
  | wrConfig (v : Word)
  /-- RD_TX_LEN: READ at 0x10 (40_host_access.md R141). -/
  | rdTxLen
  /-- WR_TX_LEN: WRITE at 0x10 (40_host_access.md R142). -/
  | wrTxLen (v : Word)
  /-- RD_TX_INDEX: READ at 0x14 (40_host_access.md R143). -/
  | rdTxIndex
  /-- WR_TX_INDEX: WRITE at 0x14 (40_host_access.md R144). -/
  | wrTxIndex (v : Word)
  /-- RD_TX_DATA: READ at 0x18 (40_host_access.md R145). -/
  | rdTxData
  /-- WR_TX_DATA: WRITE at 0x18 (40_host_access.md R146). -/
  | wrTxData (v : Word)
  /-- RD_RX_LEN: READ at 0x1C (40_host_access.md R147). -/
  | rdRxLen
  /-- WR_RX_LEN: WRITE at 0x1C (40_host_access.md R148). -/
  | wrRxLen (v : Word)
  /-- RD_RX_INDEX: READ at 0x20 (40_host_access.md R149). -/
  | rdRxIndex
  /-- WR_RX_INDEX: WRITE at 0x20 (40_host_access.md R150). -/
  | wrRxIndex (v : Word)
  /-- RD_RX_DATA: READ at 0x24 (40_host_access.md R151). -/
  | rdRxData
  /-- WR_RX_DATA: WRITE at 0x24 (40_host_access.md R152). -/
  | wrRxData (v : Word)
  /-- RD_ATTEMPTS: READ at 0x28 (40_host_access.md R153). -/
  | rdAttempts
  /-- WR_ATTEMPTS: WRITE at 0x28 (40_host_access.md R154). -/
  | wrAttempts (v : Word)
  /-- RD_IRR_COUNT: READ at 0x2C (40_host_access.md R155). -/
  | rdIrrCount
  /-- WR_IRR_COUNT: WRITE at 0x2C (40_host_access.md R156). -/
  | wrIrrCount (v : Word)
  /-- RD_RX_POS: READ at 0x30 (40_host_access.md R157). -/
  | rdRxPos
  /-- WR_RX_POS: WRITE at 0x30 (40_host_access.md R158). -/
  | wrRxPos (v : Word)
  /-- RD_TX_POS: READ at 0x34 (40_host_access.md R159). -/
  | rdTxPos
  /-- WR_TX_POS: WRITE at 0x34 (40_host_access.md R160). -/
  | wrTxPos (v : Word)
  /-- RD_STATE: READ at 0x38 (40_host_access.md R161). -/
  | rdState
  /-- WR_STATE: WRITE at 0x38 (40_host_access.md R162). -/
  | wrState (v : Word)
  /-- RD_RESERVED_3C: READ at 0x3C (40_host_access.md R163). -/
  | rdReserved3C
  /-- WR_RESERVED_3C: WRITE at 0x3C (40_host_access.md R164). -/
  | wrReserved3C (v : Word)
  /-- CMD_NOP: OP = 0x0 (40_host_access.md R135). -/
  | cmdNop (hi : BitVec 28)
  /-- CMD_RECV: OP = 0x1 (42_decoder.md R191). -/
  | cmdRecv (hi : BitVec 28)
  /-- CMD_XMIT: OP = 0x2 (41_encoder.md R170). -/
  | cmdXmit (hi : BitVec 28)
  /-- CMD_SEND: OP = 0x3 (43_sequencer.md R230). -/
  | cmdSend (hi : BitVec 28)
  /-- CMD_RESERVED_OP__0x4..0x7: OP = 01xx (30_encoding.md R112). -/
  | cmdReserved4to7 (low : BitVec 2) (hi : BitVec 28)
  /-- CMD_RESERVED_OP__0x8..0xF: OP = 1xxx (30_encoding.md R112). -/
  | cmdReserved8toF (low : BitVec 3) (hi : BitVec 28)
  /-- FRAME: a frame on the wire; L is `payload.length + 1` and the checksum is the XOR of both (30_encoding.md R100). -/
  | frame (ident : Byte) (payload : List Byte)
  /-- FRAME_ACK: a good frame with id 0x83 in a SEND wait (43_sequencer.md R237). -/
  | frameAck
  /-- FRAME_NACK: a good frame with id 0x84 in a SEND wait (43_sequencer.md R237). -/
  | frameNack
  /-- FRAME_OTHER_ID: a good frame with any other id in a SEND wait (43_sequencer.md R237, R238). -/
  | frameOtherId (ident : Byte)
deriving DecidableEq, Repr

end Sys2Proof
end

