-- ==== Sys2Proof/WellFormed.lean ====
section
/-! DEFINITION. Which instruction terms an encoding exists for. The operand widths are in the types of Syntax; two rows have a
limit of their own: a frame's payload (30_encoding.md R103) and the identifiers FRAME_OTHER_ID stands for. -/

namespace Sys2Proof

/-- The payload bytes a frame may carry: L = payload + 1 fits the 16-bit length field (30_encoding.md R103). -/
def maxPayload : Nat := 65534

/-- An instruction has an encoding: a frame's length field does not overflow (30_encoding.md R103), and FRAME_OTHER_ID is
matched only after ACK and NACK (spec/opcode_table.json, row FRAME_OTHER_ID). -/
def Instr.wellFormed : Instr → Bool
  | .frame _ payload => decide (payload.length ≤ maxPayload)
  | .frameOtherId ident => decide (ident ≠ Config.ackId) && decide (ident ≠ Config.nackId)
  | .rdId | .rdCmd | .rdStatus | .rdConfig | .rdTxLen | .rdTxIndex | .rdTxData | .rdRxLen => true
  | .rdRxIndex | .rdRxData | .rdAttempts | .rdIrrCount | .rdRxPos | .rdTxPos | .rdState | .rdReserved3C => true
  | .wrId _ | .wrCmd _ | .wrStatus _ | .wrConfig _ | .wrTxLen _ | .wrTxIndex _ | .wrTxData _ | .wrRxLen _ => true
  | .wrRxIndex _ | .wrRxData _ | .wrAttempts _ | .wrIrrCount _ | .wrRxPos _ | .wrTxPos _ | .wrState _ => true
  | .wrReserved3C _ | .cmdNop _ | .cmdRecv _ | .cmdXmit _ | .cmdSend _ => true
  | .cmdReserved4to7 _ _ | .cmdReserved8toF _ _ | .frameAck | .frameNack => true

end Sys2Proof
end

