-- ==== Sys2Proof/Decode.lean ====
section
/-! DEFINITION. The decoder of each of the table's four formats, total on any bytes and rejecting by name, and after it the
encoder, written from the same tables (30_encoding.md). As bytes, a BUS instruction is its 7-bit key (bit 6 = WRITE,
bits [5:0] = offset) and, for a write, the 32-bit value, low byte first; a CMD instruction is its 32-bit command word, low
byte first (log entry 16: the host port is parallel, this layout is the model's). A frame is its wire bytes (R100). -/

namespace Sys2Proof

/-- Why bytes are no instruction of a format. -/
inductive DecodeError where
  /-- fewer bytes than the format needs -/
  | truncated
  /-- a BUS key has 7 bits: bit 7 of its byte is set (spec/opcode_table.json, format BUS) -/
  | spareKeyBit
  /-- an offset that is no multiple of 4, or outside the window (30_encoding.md R114) -/
  | badOffset
  /-- the first two bytes are not 0xA0 0xA1 (30_encoding.md R100) -/
  | badPreamble
  /-- L = 0: a frame has an identifier (30_encoding.md R103) -/
  | zeroLength
  /-- the last two bytes are not 0x0D 0x0A (30_encoding.md R100) -/
  | badEndMarker
  /-- the checksum is not the XOR of identifier and payload (30_encoding.md R102) -/
  | badChecksum
deriving DecidableEq, Repr

/-- What a decoder answers: the instruction and the bytes after it, or the reason there is none. -/
abbrev Decoded := Except DecodeError (Instr × List Byte)

/-- The XOR of a byte sequence, 0x00 for the empty one (00_scope.md R5). -/
def xorBytes : List Byte → Byte
  | [] => 0#8
  | b :: bs => b ^^^ xorBytes bs

/-- The `n` low bytes of a number, low byte first. -/
def lowBytes : Nat → Nat → List Byte
  | 0, _ => []
  | n + 1, w => BitVec.ofNat 8 w :: lowBytes n (w / 256)

/-- The number four bytes stand for, low byte first. -/
def wordOfBytes (b0 b1 b2 b3 : Byte) : Word := b3 ++ b2 ++ b1 ++ b0

/-- The word of the window a register is, counted from offset 0x00 (30_encoding.md R116). -/
def Reg.index : Reg → Nat
  | .id => 0 | .cmd => 1 | .status => 2 | .config => 3
  | .txLen => 4 | .txIndex => 5 | .txData => 6 | .rxLen => 7
  | .rxIndex => 8 | .rxData => 9 | .attempts => 10 | .irrCount => 11
  | .rxPos => 12 | .txPos => 13 | .state => 14 | .reserved3C => 15

/-- A register's byte offset (30_encoding.md R116). -/
def Reg.off (r : Reg) : Nat := 4 * r.index

/-- The register at a word of the window (10_state.md R20). -/
def Reg.ofIndex : Nat → Option Reg
  | 0 => some .id | 1 => some .cmd | 2 => some .status | 3 => some .config
  | 4 => some .txLen | 5 => some .txIndex | 6 => some .txData | 7 => some .rxLen
  | 8 => some .rxIndex | 9 => some .rxData | 10 => some .attempts | 11 => some .irrCount
  | 12 => some .rxPos | 13 => some .txPos | 14 => some .state | 15 => some .reserved3C
  | _ => none

/-- The read of a register, as an instruction (30_encoding.md R114). -/
def readInstr : Reg → Instr
  | .id => .rdId | .cmd => .rdCmd | .status => .rdStatus | .config => .rdConfig
  | .txLen => .rdTxLen | .txIndex => .rdTxIndex | .txData => .rdTxData | .rxLen => .rdRxLen
  | .rxIndex => .rdRxIndex | .rxData => .rdRxData | .attempts => .rdAttempts | .irrCount => .rdIrrCount
  | .rxPos => .rdRxPos | .txPos => .rdTxPos | .state => .rdState | .reserved3C => .rdReserved3C

/-- The write of a value to a register, as an instruction (30_encoding.md R114). -/
def writeInstr (v : Word) : Reg → Instr
  | .id => .wrId v | .cmd => .wrCmd v | .status => .wrStatus v | .config => .wrConfig v
  | .txLen => .wrTxLen v | .txIndex => .wrTxIndex v | .txData => .wrTxData v | .rxLen => .wrRxLen v
  | .rxIndex => .wrRxIndex v | .rxData => .wrRxData v | .attempts => .wrAttempts v | .irrCount => .wrIrrCount v
  | .rxPos => .wrRxPos v | .txPos => .wrTxPos v | .state => .wrState v | .reserved3C => .wrReserved3C v

/-- The instruction of a host access `(dir, off, data)`; only multiples of 4 in 0x00..0x3C are offsets (30_encoding.md R114). -/
def decodeAccess (dir : Dir) (off : Nat) (data : Word) : Except DecodeError Instr :=
  if off % 4 = 0 then
    match Reg.ofIndex (off / 4), dir with
    | some r, .read => .ok (readInstr r)
    | some r, .write => .ok (writeInstr data r)
    | none, _ => .error .badOffset
  else .error .badOffset

/-- The command of a command word: OP = bits [3:0] alone select it (30_encoding.md R110, R112). -/
def decodeCommand (data : Word) : Instr :=
  let op : BitVec 4 := data.extractLsb' 0 4
  let hi : BitVec 28 := data.extractLsb' 4 28
  if op = 0x0#4 then .cmdNop hi
  else if op = 0x1#4 then .cmdRecv hi
  else if op = 0x2#4 then .cmdXmit hi
  else if op = 0x3#4 then .cmdSend hi
  else if op < 0x8#4 then .cmdReserved4to7 (op.extractLsb' 0 2) hi
  else .cmdReserved8toF (op.extractLsb' 0 3) hi

/-- The row of format FRAME_ID an identifier matches: ACK, then NACK, then any other (43_sequencer.md R237). -/
def decodeFrameId (ident : Byte) : Instr :=
  if ident = Config.ackId then .frameAck
  else if ident = Config.nackId then .frameNack
  else .frameOtherId ident

/-- The frame in a body of `L + 3` bytes, `L` of them identifier and payload (30_encoding.md R100, R102). -/
def decodeBody (content tail : List Byte) : Decoded :=
  match content, tail with
  | ident :: payload, c :: e1 :: e2 :: rest =>
    if e1 ≠ Config.marker1 ∨ e2 ≠ Config.marker2 then .error .badEndMarker
    else if c ≠ xorBytes (ident :: payload) then .error .badChecksum
    else .ok (.frame ident payload, rest)
  | _, _ => .error .truncated

/-- A frame on the wire: preamble, big-endian L, body (30_encoding.md R100, R101). -/
def decodeWire : List Byte → Decoded
  | p1 :: p2 :: h :: l :: rest =>
    let len := (h ++ l : BitVec 16).toNat
    if p1 ≠ Config.preamble1 ∨ p2 ≠ Config.preamble2 then .error .badPreamble
    else if len = 0 then .error .zeroLength
    else if rest.length < len + 3 then .error .truncated
    else decodeBody (rest.take len) (rest.drop len)
  | _ => .error .truncated

/-- A host access as bytes: the key, and the value of a write (spec/opcode_table.json, format BUS). -/
def decodeBus : List Byte → Decoded
  | [] => .error .truncated
  | key :: rest =>
    let off := key.toNat % 64
    if key.toNat ≥ 128 then .error .spareKeyBit
    else if key.toNat < 64 then (decodeAccess .read off 0#32).map (·, rest)
    else
      match rest with
      | b0 :: b1 :: b2 :: b3 :: rest' => (decodeAccess .write off (wordOfBytes b0 b1 b2 b3)).map (·, rest')
      | _ => .error .truncated

/-- The decoder: the first instruction of a format in a byte sequence, and the bytes after it. -/
def decode (f : Format) (bytes : List Byte) : Decoded :=
  match f, bytes with
  | .bus, _ => decodeBus bytes
  | .cmd, b0 :: b1 :: b2 :: b3 :: rest => .ok (decodeCommand (wordOfBytes b0 b1 b2 b3), rest)
  | .cmd, _ => .error .truncated
  | .wire, _ => decodeWire bytes
  | .frameId, b :: rest => .ok (decodeFrameId b, rest)
  | .frameId, [] => .error .truncated

/-! The encoder. -/

/-- The format of an instruction's row (spec/opcode_table.json). -/
def Instr.format : Instr → Format
  | .rdId | .rdCmd | .rdStatus | .rdConfig | .rdTxLen | .rdTxIndex | .rdTxData | .rdRxLen => .bus
  | .rdRxIndex | .rdRxData | .rdAttempts | .rdIrrCount | .rdRxPos | .rdTxPos | .rdState | .rdReserved3C => .bus
  | .wrId _ | .wrCmd _ | .wrStatus _ | .wrConfig _ | .wrTxLen _ | .wrTxIndex _ | .wrTxData _ | .wrRxLen _ => .bus
  | .wrRxIndex _ | .wrRxData _ | .wrAttempts _ | .wrIrrCount _ | .wrRxPos _ | .wrTxPos _ | .wrState _ => .bus
  | .wrReserved3C _ => .bus
  | .cmdNop _ | .cmdRecv _ | .cmdXmit _ | .cmdSend _ | .cmdReserved4to7 _ _ | .cmdReserved8toF _ _ => .cmd
  | .frame _ _ => .wire
  | .frameAck | .frameNack | .frameOtherId _ => .frameId

/-- The bytes of a read: its key, dir = 0 (spec/opcode_table.json, format BUS). -/
def readBytes (r : Reg) : List Byte := [BitVec.ofNat 8 r.off]

/-- The bytes of a write: its key, dir = 1, and the value (spec/opcode_table.json, format BUS). -/
def writeBytes (r : Reg) (v : Word) : List Byte := BitVec.ofNat 8 (64 + r.off) :: lowBytes 4 v.toNat

/-- The bytes of a command word `{hi, op}` (30_encoding.md R110). -/
def commandBytes (op : BitVec 4) (hi : BitVec 28) : List Byte := lowBytes 4 (hi ++ op : BitVec 32).toNat

/-- The bytes of a frame on the wire (30_encoding.md R100, R101, R102). -/
def frameBytes (ident : Byte) (payload : List Byte) : List Byte :=
  let len : BitVec 16 := BitVec.ofNat 16 (payload.length + 1)
  [Config.preamble1, Config.preamble2, len.extractLsb' 8 8, len.extractLsb' 0 8]
    ++ (ident :: payload)
    ++ [xorBytes (ident :: payload), Config.marker1, Config.marker2]

/-- The bytes of an instruction in its row's format. -/
def encode : Instr → List Byte
  | .rdId => readBytes .id
  | .wrId v => writeBytes .id v
  | .rdCmd => readBytes .cmd
  | .wrCmd v => writeBytes .cmd v
  | .rdStatus => readBytes .status
  | .wrStatus v => writeBytes .status v
  | .rdConfig => readBytes .config
  | .wrConfig v => writeBytes .config v
  | .rdTxLen => readBytes .txLen
  | .wrTxLen v => writeBytes .txLen v
  | .rdTxIndex => readBytes .txIndex
  | .wrTxIndex v => writeBytes .txIndex v
  | .rdTxData => readBytes .txData
  | .wrTxData v => writeBytes .txData v
  | .rdRxLen => readBytes .rxLen
  | .wrRxLen v => writeBytes .rxLen v
  | .rdRxIndex => readBytes .rxIndex
  | .wrRxIndex v => writeBytes .rxIndex v
  | .rdRxData => readBytes .rxData
  | .wrRxData v => writeBytes .rxData v
  | .rdAttempts => readBytes .attempts
  | .wrAttempts v => writeBytes .attempts v
  | .rdIrrCount => readBytes .irrCount
  | .wrIrrCount v => writeBytes .irrCount v
  | .rdRxPos => readBytes .rxPos
  | .wrRxPos v => writeBytes .rxPos v
  | .rdTxPos => readBytes .txPos
  | .wrTxPos v => writeBytes .txPos v
  | .rdState => readBytes .state
  | .wrState v => writeBytes .state v
  | .rdReserved3C => readBytes .reserved3C
  | .wrReserved3C v => writeBytes .reserved3C v
  | .cmdNop hi => commandBytes 0x0#4 hi
  | .cmdRecv hi => commandBytes 0x1#4 hi
  | .cmdXmit hi => commandBytes 0x2#4 hi
  | .cmdSend hi => commandBytes 0x3#4 hi
  | .cmdReserved4to7 low hi => commandBytes (0b01#2 ++ low) hi
  | .cmdReserved8toF low hi => commandBytes (0b1#1 ++ low) hi
  | .frame ident payload => frameBytes ident payload
  | .frameAck => [Config.ackId]
  | .frameNack => [Config.nackId]
  | .frameOtherId ident => [ident]

/-! The opcode table's words. The table numbers the words of its four formats over the same low bits and a word does not
name its format (key 0x00 is RD_ID and data 0x0 is CMD_NOP), so a word is read in the first format that fits
(log entry 17). -/

/-- The format a table word is read in: at most 4 bits, a command's OP; 0xA0 0xA1, a frame; bit 7 set (no BUS key has it), an
identifier; a multiple of 4, a BUS key; else a command word (log entry 17). -/
def tableFormat (nbits w : Nat) : Format :=
  if nbits ≤ 4 then .cmd
  else if w % 65536 = 0xA1A0 then .wire
  else if w % 256 ≥ 128 then .frameId
  else if w % 4 = 0 then .bus
  else .cmd

/-- The bytes of a table word, low byte first, with zeros above them up to the longest host word (key and value, 5 bytes). -/
def tableBytes (nbits w : Nat) : List Byte := lowBytes (nbits / 8 + 5) (w % 2 ^ nbits)

/-- The instruction the decoder reads from a word of the opcode table. -/
def decodeTableWord (nbits w : Nat) : Option Instr :=
  match decode (tableFormat nbits w) (tableBytes nbits w) with
  | .ok (i, _) => some i
  | .error _ => none

end Sys2Proof
end

