-- ==== Sys2Proof/Machine/State.lean ====
section
/-! DEFINITION. The state of the block and of the ports around it, as plain data, and its value after reset
(10_state.md R20 to R48). -/

namespace Sys2Proof.Machine

/-- Why the machine stops with a fault. -/
inductive Fault where
  /-- Raised by the receiver for a body byte at an RX_BUF index that does not exist, 65538 or above (10_state.md R41). No
  reachable state meets it: RX_POS stays below RX_LEN + 3 (R36). Safe: the model stops where the spec gives no byte. -/
  | rxBufIndex
deriving DecidableEq, Repr

/-- Why an instruction has no meaning. -/
inductive Refusal where
  /-- Raised by `exec` for a row with no meaning yet; no arm does. Safe: the model stops. -/
  | notModelled (mnemonic : String)
deriving DecidableEq, Repr

/-- What a step and a meaning answer. -/
abbrev Outcome (σ : Type) := Host.Outcome σ Fault Refusal

/-- The result and cause codes 0..10, the only ones ever produced (60_exceptions.md R270, R271; 93 I9). -/
inductive Code where
  | none | ok | endMarker | checksum | zeroLen | eos | rxErr | txErr | nack | irrelevant | exceeded
deriving DecidableEq, Repr

/-- The values of STATUS.OP: 0, or the code of an accepted command (10_state.md R26, 30_encoding.md R110). -/
inductive Op where
  | nop | recv | xmit | send
deriving DecidableEq, Repr

/-- The receiver's states (10_state.md R42). -/
inductive RxSt where
  | idle | seek1 | seek2 | lenH | lenL | body
deriving DecidableEq, Repr

/-- The sequencer's states (10_state.md R43). -/
inductive SqSt where
  | idle | xmit | recv
deriving DecidableEq, Repr

/-- An RX event (42_decoder.md R190). -/
inductive RxEvent where
  | byte (b : Byte) | eos | rxErr
deriving DecidableEq, Repr

/-- TXSNK's answer to the byte on offer (41_encoder.md R171). -/
inductive TxAnswer where
  | accept | error
deriving DecidableEq, Repr

/-- A host access: its byte address minus BASE, its width in bytes, and the value of a write
(20_memory.md R74, 30_encoding.md R114; log entry 10). -/
structure Access where
  dir : Dir
  off : Nat
  width : Nat
  data : Word
deriving DecidableEq, Repr

/-- The host port's answer to the last access: a read's value, the end of a write, or a BusError (00_scope.md R6).
`none` also stands for an access that was not the block's (20_memory.md R78). -/
inductive Response where
  | none | data (v : Word) | done | busError
deriving DecidableEq, Repr

/-- Who acts next (00_scope.md section 4; 20_memory.md R79, R82). -/
inductive Turn where
  /-- the host makes an access -/
  | host (a : Access)
  /-- RXSRC offers the event it holds first -/
  | rx
  /-- RXSRC offers the frame it holds first, all of its bytes with no other step between them (log entry 14) -/
  | rxFrame
  /-- TXSNK answers the byte on offer -/
  | tx (ans : TxAnswer)
  /-- the reset input is asserted -/
  | assertReset
  /-- the reset input is released -/
  | releaseReset
deriving DecidableEq, Repr

/-- A byte array with the bytes that have been written, by rising index. A byte that nothing has written has no entry and
no value of its own: the buffer's reader supplies the free value it holds (log entry 3). -/
abbrev Memory := List Host.Cell

/-- The one canonical form of a memory of `size` bytes: indices strictly rising, each of them in the memory. An unlisted
byte reads as "not written", which no entry equals. -/
abbrev Memory.wf (size : Nat) (m : Memory) : Prop :=
  List.Pairwise (fun x y => x.1 < y.1) m ∧ ∀ c ∈ m, c.1 < size

/-- Everything that changes as the machine runs. -/
structure State where
  /-- STATUS.BUSY (10_state.md R26) -/
  busy : Bool
  /-- STATUS.DONE (10_state.md R26) -/
  done : Bool
  /-- STATUS.CMD_ERR (10_state.md R26) -/
  cmdErr : Bool
  /-- STATUS.RESULT (10_state.md R26) -/
  result : Code
  /-- STATUS.CAUSE (10_state.md R26) -/
  cause : Code
  /-- STATUS.OP (10_state.md R26) -/
  op : Op
  /-- CONFIG.MAX_ATTEMPTS (10_state.md R27) -/
  maxAttempts : BitVec 8
  /-- CONFIG.IRR_BOUND (10_state.md R27) -/
  irrBound : BitVec 8
  /-- CONFIG.IE (10_state.md R27) -/
  ie : Bool
  /-- TX_LEN (10_state.md R28) -/
  txLen : BitVec 16
  /-- TX_INDEX (10_state.md R29) -/
  txIndex : BitVec 16
  /-- RX_LEN (10_state.md R31) -/
  rxLen : BitVec 16
  /-- RX_INDEX (10_state.md R32) -/
  rxIndex : BitVec 17
  /-- ATTEMPTS (10_state.md R34) -/
  attempts : BitVec 8
  /-- IRR_COUNT (10_state.md R35) -/
  irrCount : BitVec 9
  /-- RX_POS (10_state.md R36) -/
  rxPos : BitVec 17
  /-- TX_POS (10_state.md R37) -/
  txPos : BitVec 17
  /-- STATE.RXST, `rxst` (10_state.md R42) -/
  rxst : RxSt
  /-- STATE.SQST, `sqst` (10_state.md R43) -/
  sqst : SqSt
  /-- STATE.RXXOR (10_state.md R38) -/
  rxXor : Byte
  /-- STATE.TXXOR (10_state.md R38) -/
  txXor : Byte
  /-- STATE.LCAUSE (10_state.md R38) -/
  lcause : Code
  /-- TX_BUF's written bytes (10_state.md R40) -/
  txBuf : Memory
  /-- RX_BUF's written bytes (10_state.md R41) -/
  rxBuf : Memory
  /-- the level of the reset input, true while asserted (70_reset_and_hazards.md R300) -/
  inReset : Bool
  /-- MODEL: which draw TX_BUF's unwritten bytes hold (log entries 3 and 5) -/
  txEpoch : Nat
  /-- MODEL: how many free values have been drawn (log entry 4) -/
  draws : Nat
  /-- MODEL: the host port's answer to the last access -/
  resp : Response
  /-- MODEL: the turns still to be taken (log entry 2) -/
  agenda : List Turn
  /-- MODEL: the events RXSRC holds, in the order it offers them (20_memory.md R80) -/
  rxQ : List RxEvent
  /-- MODEL: the bytes TXSNK has accepted, oldest first -/
  sent : List Byte
deriving DecidableEq, Repr

/-- The block right after reset: every register at its value of 10_state.md R47, nothing written in the buffers, the reset
input released, no turn to take and nothing on the streams (log entries 1 to 3). -/
def State.reset : State where
  busy := false
  done := false
  cmdErr := false
  result := .none
  cause := .none
  op := .nop
  maxAttempts := Config.defaultAttempts
  irrBound := Config.defaultBound
  ie := false
  txLen := 0
  txIndex := 0
  rxLen := 0
  rxIndex := 0
  attempts := 0
  irrCount := 0
  rxPos := 0
  txPos := 0
  rxst := .idle
  sqst := .idle
  rxXor := 0
  txXor := 0
  lcause := .none
  txBuf := []
  rxBuf := []
  inReset := false
  txEpoch := 0
  draws := 0
  resp := .none
  agenda := []
  rxQ := []
  sent := []

end Sys2Proof.Machine
end

