-- ==== Sys2Proof/Machine/Ops.lean ====
section
/-! DEFINITION. The operations the meanings share: the buffers, completion (the block's counterpart of taking an exception,
60_exceptions.md R276) and the return from it (R284), the phases of an operation, the receiver, the encoder, the sequencer, the
command word, the reset step and the host port. -/

namespace Sys2Proof.Machine

/-! Buffers. -/

/-- The byte written at an index, if one was. -/
def memRead : Memory → Nat → Option Byte
  | [], _ => none
  | (k, v) :: rest, a => if k = a then some v else memRead rest a

/-- Writes a byte, keeping the canonical form. -/
def memWrite : Memory → Nat → Byte → Memory
  | [], a, v => [(a, v)]
  | (k, w) :: rest, a, v =>
    if a < k then (a, v) :: (k, w) :: rest
    else if a = k then (a, v) :: rest
    else (k, w) :: memWrite rest a v

/-- TX_BUF[i] (10_state.md R40): the byte written last, else the free value it holds since power-on (93 I4). -/
def State.txByte (s : State) (i : Nat) : Byte := (memRead s.txBuf i).getD (Config.txRam s.txEpoch i)

/-- RX_BUF[i] (10_state.md R41): the byte written last, else the free value it holds since power-on (93 I4). -/
def State.rxByte (s : State) (i : Nat) : Byte := (memRead s.rxBuf i).getD (Config.rxRam i)

/-- XOR(TX_BUF[0 .. n-1]) (00_scope.md R5). -/
def State.txXorTo (s : State) : Nat → Byte
  | 0 => 0#8
  | n + 1 => s.txXorTo n ^^^ s.txByte n

/-- XOR(RX_BUF[0 .. n-1]) (00_scope.md R5). -/
def State.rxXorTo (s : State) : Nat → Byte
  | 0 => 0#8
  | n + 1 => s.rxXorTo n ^^^ s.rxByte n

/-! Completion and return. -/

/-- `complete(r, c)`: ends the running operation (60_exceptions.md R276). -/
def complete (r c : Code) (s : State) : State :=
  { s with sqst := .idle, rxst := .idle, busy := false, done := true, result := r, cause := c }

/-- The return from a completion: DONE is cleared, by a STATUS write or by the next command (60_exceptions.md R284). -/
def clearDone (s : State) : State := { s with done := false }

/-! Phases of an operation. -/

/-- `start_transmit()` (41_encoder.md R170). -/
def startTransmit (s : State) : State := { s with sqst := .xmit, txPos := 0, txXor := 0 }

/-- `start_receive()` (42_decoder.md R191). -/
def startReceive (s : State) : State := { s with sqst := .recv, rxst := .seek1, rxPos := 0, rxXor := 0 }

/-- `start_attempt()` (43_sequencer.md R232). -/
def startAttempt (s : State) : State :=
  startTransmit { s with attempts := s.attempts + 1, irrCount := 0 }

/-- ATTEMPTS and IRR_COUNT cleared by an accepted SEND (43_sequencer.md R230). -/
def clearCounts (s : State) : State := { s with attempts := 0, irrCount := 0 }

/-- `start_send()` (43_sequencer.md R230, R231). -/
def startSend (s : State) : State :=
  if s.maxAttempts = 0 then complete .exceeded .none (clearCounts s) else startAttempt (clearCounts s)

/-- The cause of a failed attempt in STATE.LCAUSE (43_sequencer.md R240). -/
def recordCause (c : Code) (s : State) : State := { s with lcause := c }

/-- `attempt_failed(c)` (43_sequencer.md R240, R241). -/
def attemptFailed (c : Code) (s : State) : State :=
  if s.attempts < s.maxAttempts then startAttempt (recordCause c s) else complete .exceeded c (recordCause c s)

/-- An irrelevant frame counted in IRR_COUNT (43_sequencer.md R238). -/
def countIrrelevant (s : State) : State := { s with irrCount := s.irrCount + 1 }

/-- `irrelevant()` (43_sequencer.md R238). -/
def irrelevant (s : State) : State :=
  if s.irrBound.toNat < (s.irrCount + 1).toNat then attemptFailed .irrelevant (countIrrelevant s)
  else startReceive (countIrrelevant s)

/-- `classify()` of a good frame whose identifier is `ident` (43_sequencer.md R237). -/
def classifyAs (ident : Byte) (s : State) : State :=
  if ident = Config.ackId ∧ 2 ≤ s.rxLen.toNat ∧ s.rxByte 1 = s.txByte 0 then complete .ok .none s
  else if ident = Config.nackId ∧ 2 ≤ s.rxLen.toNat ∧ s.rxByte 1 = s.txByte 0 then attemptFailed .nack s
  else irrelevant s

/-- Both state machines at rest: no handshake is taken (10_state.md R46). -/
def stopPorts (s : State) : State := { s with rxst := .idle, sqst := .idle }

/-- `end_receive(r)` (42_decoder.md R204, 43_sequencer.md R236). A receiver runs only in a RECV or a SEND; with another OP,
which no reachable state has, it only stops (log entry 19). -/
def endReceive (r : Code) (s : State) : State :=
  match s.op with
  | .recv => complete r .none (stopPorts s)
  | .send => if r = .ok then classifyAs (s.rxByte 0) (stopPorts s) else attemptFailed r (stopPorts s)
  | .nop | .xmit => stopPorts s

/-- The encoder at rest (41_encoder.md R175). -/
def stopEncoder (s : State) : State := { s with sqst := .idle }

/-- `end_transmit(r)` (41_encoder.md R175, 43_sequencer.md R234). The encoder runs only in an XMIT or a SEND; with another
OP, which no reachable state has, it only stops (log entry 19). -/
def endTransmit (r : Code) (s : State) : State :=
  match s.op with
  | .xmit => complete r .none (stopEncoder s)
  | .send => if r = .txErr then complete .txErr .none (stopEncoder s) else startReceive (stopEncoder s)
  | .nop | .recv => stopEncoder s

/-! The receiver. -/

/-- `check_frame()`: end marker, then checksum, then length 0 (42_decoder.md R200, R203). -/
def checkFrame (s : State) : State :=
  if s.rxByte (s.rxLen.toNat + 1) ≠ Config.marker1 ∨ s.rxByte (s.rxLen.toNat + 2) ≠ Config.marker2 then
    endReceive .endMarker s
  else if s.rxByte s.rxLen.toNat ≠ s.rxXor then endReceive .checksum s
  else if s.rxLen.toNat = 0 then endReceive .zeroLen s
  else endReceive .ok s

/-- A body byte stored in RX_BUF[RX_POS], counted, and summed while it is identifier or payload (42_decoder.md R197). -/
def storeBodyByte (b : Byte) (s : State) : State :=
  { s with
    rxBuf := memWrite s.rxBuf s.rxPos.toNat b
    rxXor := if s.rxPos.toNat < s.rxLen.toNat then s.rxXor ^^^ b else s.rxXor
    rxPos := s.rxPos + 1 }

/-- A body byte; the last one, at RX_POS = L + 2, has the frame checked (42_decoder.md R197). An index that RX_BUF does not
have faults (log entry 13). -/
def takeBodyByte (b : Byte) (s : State) : Outcome State :=
  if s.rxPos.toNat < Config.rxBufSize then
    if s.rxPos.toNat + 1 = s.rxLen.toNat + 3 then .next (checkFrame (storeBodyByte b s))
    else .next (storeBodyByte b s)
  else .fault .rxBufIndex

/-- The preamble search moves on (42_decoder.md R192 to R194). -/
def setRxst (x : RxSt) (s : State) : State := { s with rxst := x }

/-- The first length byte: RX_LEN[15:8], with RX_LEN[7:0] zero (42_decoder.md R195). -/
def takeLengthHigh (b : Byte) (s : State) : State := { s with rxLen := b ++ 0#8, rxst := .lenL }

/-- The second length byte: RX_LEN[7:0]; the body starts (42_decoder.md R196). -/
def takeLengthLow (b : Byte) (s : State) : State :=
  { s with rxLen := s.rxLen.extractLsb' 8 8 ++ b, rxPos := 0, rxXor := 0, rxst := .body }

/-- One RX event taken by the receiver (42_decoder.md R192 to R199). -/
def takeEvent (e : RxEvent) (s : State) : Outcome State :=
  match e, s.rxst with
  | _, .idle => .next s
  | .eos, _ => .next (endReceive .eos s)
  | .rxErr, _ => .next (endReceive .rxErr s)
  | .byte b, .seek1 => .next (setRxst (if b = Config.preamble1 then .seek2 else .seek1) s)
  | .byte b, .seek2 =>
    .next (setRxst (if b = Config.preamble2 then .lenH else if b = Config.preamble1 then .seek2 else .seek1) s)
  | .byte b, .lenH => .next (takeLengthHigh b s)
  | .byte b, .lenL => .next (takeLengthLow b s)
  | .byte b, .body => takeBodyByte b s

/-- The block takes an RX event: `rx_ready` = 1 and the reset input is not asserted (42_decoder.md R190, 10_state.md R46,
70_reset_and_hazards.md R300). -/
def State.takesRx (s : State) : Bool := decide (s.rxst ≠ .idle) && !s.inReset

/-- The events RXSRC still holds (20_memory.md R80). -/
def setRxQ (q : List RxEvent) (s : State) : State := { s with rxQ := q }

/-- Bytes offered one after another: each is taken while the block takes RX events, and those it does not take stay with
RXSRC, first in its order (20_memory.md R80). -/
def takeBytes : List Byte → State → Outcome State
  | [], s => .next s
  | b :: bs, s =>
    if s.takesRx then
      match takeEvent (.byte b) s with
      | .next t => takeBytes bs t
      | .fault r => .fault r
      | .refused r => .refused r
    else .next (setRxQ ((b :: bs).map .byte ++ s.rxQ) s)

/-! The encoder. -/

/-- `txbyte(p)`: the byte offered at position p of the frame in TX_BUF, L = TX_LEN (41_encoder.md R172). Past the frame's
last byte nothing is on offer and the value is free (log entry 11). -/
def State.txFrameByte (s : State) (p : Nat) : Byte :=
  if p = 0 then Config.preamble1
  else if p = 1 then Config.preamble2
  else if p = 2 then s.txLen.extractLsb' 8 8
  else if p = 3 then s.txLen.extractLsb' 0 8
  else if p ≤ s.txLen.toNat + 3 then s.txByte (p - 4)
  else if p = s.txLen.toNat + 4 then s.txXorTo s.txLen.toNat
  else if p = s.txLen.toNat + 5 then Config.marker1
  else if p = s.txLen.toNat + 6 then Config.marker2
  else Config.idleTxData s.draws

/-- A TX byte is on offer and the reset input is not asserted (41_encoder.md R171, 70_reset_and_hazards.md R300). -/
def State.offersTx (s : State) : Bool := decide (s.sqst = .xmit) && !s.inReset

/-- The byte on offer is on the wire, counted, and summed if it is identifier or payload (41_encoder.md R173). -/
def advanceTx (s : State) : State :=
  { s with
    sent := s.sent ++ [s.txFrameByte s.txPos.toNat]
    txXor := if 4 ≤ s.txPos.toNat ∧ s.txPos.toNat ≤ s.txLen.toNat + 3 then s.txXor ^^^ s.txByte (s.txPos.toNat - 4)
      else s.txXor
    txPos := s.txPos + 1 }

/-- TXSNK accepts the byte on offer; the last one, at TX_POS = L + 6, ends the frame (41_encoder.md R173). -/
def txAccept (s : State) : State :=
  if s.txPos.toNat = s.txLen.toNat + 6 then endTransmit .ok (advanceTx s) else advanceTx s

/-- TXSNK answers the byte on offer (41_encoder.md R173, R174). -/
def txAnswer (ans : TxAnswer) (s : State) : State :=
  match ans with
  | .accept => txAccept s
  | .error => endTransmit .txErr s

/-! The command word. -/

/-- A refused host write: CMD_ERR is set and nothing else changes (60_exceptions.md R279). -/
def refuseWrite (s : State) : State := { s with cmdErr := true }

/-- A write that a running operation refuses (40_host_access.md R137). -/
def unlessBusy (f : State → State) (s : State) : State := if s.busy then refuseWrite s else f s

/-- The acceptance of a command (40_host_access.md R134). -/
def accept (op : Op) (s : State) : State :=
  { clearDone s with result := .none, cause := .none, op := op, busy := true, lcause := .none }

/-- A command of code `op` issued by a CMD write: NOP, then reserved, then BUSY, then TX_LEN = 0, then accepted
(40_host_access.md R134, R135; 60_exceptions.md R280). -/
def issueCommand (op : BitVec 4) (s : State) : State :=
  if op = 0x0#4 then s
  else if 0x4#4 ≤ op then refuseWrite s
  else if s.busy then refuseWrite s
  else if (op = 0x2#4 ∨ op = 0x3#4) ∧ s.txLen = 0 then refuseWrite s
  else if op = 0x1#4 then startReceive (accept .recv s)
  else if op = 0x2#4 then startTransmit (accept .xmit s)
  else startSend (accept .send s)

/-! Reset. -/

/-- The reset step: every register takes its reset value and the buffers keep their bytes; what RXSRC holds, what is on the
wire and the turns to come are not the block's (70_reset_and_hazards.md R300, R301). -/
def resetStep (s : State) : State :=
  { State.reset with
    txBuf := s.txBuf
    rxBuf := s.rxBuf
    inReset := true
    txEpoch := s.txEpoch
    draws := s.draws
    resp := s.resp
    agenda := s.agenda
    rxQ := s.rxQ
    sent := s.sent }

/-- A host write while the reset input is asserted: any byte of TX_BUF may change, no register does (93 I5): TX_BUF is
drawn anew (log entry 5). -/
def scrambleTx (s : State) : State := { s with txBuf := [], txEpoch := s.draws + 1, draws := s.draws + 1 }

/-- The reset input is released: the block waits for the host (70_reset_and_hazards.md R302). -/
def releaseReset (s : State) : State := { s with inReset := false }

/-! The host port. -/

/-- The host port answers an access (00_scope.md R6). -/
def respond (r : Response) (s : State) : State := { s with resp := r }

/-- One free value is drawn. -/
def draw (s : State) : State := { s with draws := s.draws + 1 }

/-- The answer to an admitted read whose register shows `v`; while the reset input is asserted, any word (93 I5). -/
def hostRead (v : Word) (s : State) : Outcome State :=
  if s.inReset then .next (respond (.data (Config.resetWord s.draws)) (draw s)) else .next (respond (.data v) s)

/-- An admitted write whose effect is `f`; while the reset input is asserted, that of `scrambleTx` (93 I5). -/
def hostWrite (f : State → State) (s : State) : Outcome State :=
  if s.inReset then .next (respond .done (scrambleTx s)) else .next (respond .done (f s))

/-- A write with no effect: to a read-only register or to offset 0x3C (10_state.md R23, R39). -/
def ignoreWrite (s : State) : State := s

end Sys2Proof.Machine
end

