-- ==== Sys2Proof/Machine/Flags.lean ====
section
/-! DEFINITION. The codes of the state machines and results as the registers show them, the packing of STATUS and STATE, the
status flags' W1C write, and the port outputs (10_state.md R26, R38, R42 to R46; 60_exceptions.md R270, R283). -/

namespace Sys2Proof.Machine

/-- The 4-bit number of a result or cause (60_exceptions.md R270). -/
def Code.bits : Code → BitVec 4
  | .none => 0 | .ok => 1 | .endMarker => 2 | .checksum => 3 | .zeroLen => 4 | .eos => 5
  | .rxErr => 6 | .txErr => 7 | .nack => 8 | .irrelevant => 9 | .exceeded => 10

/-- The 4-bit number of STATUS.OP (30_encoding.md R110). -/
def Op.bits : Op → BitVec 4
  | .nop => 0 | .recv => 1 | .xmit => 2 | .send => 3

/-- The 3-bit number of `rxst` (10_state.md R42). -/
def RxSt.bits : RxSt → BitVec 3
  | .idle => 0 | .seek1 => 1 | .seek2 => 2 | .lenH => 3 | .lenL => 4 | .body => 5

/-- The 2-bit number of `sqst` (10_state.md R43). -/
def SqSt.bits : SqSt → BitVec 2
  | .idle => 0 | .xmit => 1 | .recv => 2

/-- STATUS as a read returns it (40_host_access.md R136). -/
def State.statusWord (s : State) : Word :=
  0#16 ++ s.op.bits ++ s.cause.bits ++ s.result.bits ++ 0#1 ++
    BitVec.ofBool s.cmdErr ++ BitVec.ofBool s.done ++ BitVec.ofBool s.busy

/-- STATE as a read returns it (40_host_access.md R161). -/
def State.stateWord (s : State) : Word :=
  0#4 ++ s.lcause.bits ++ s.txXor ++ s.rxXor ++ 0#2 ++ s.sqst.bits ++ 0#1 ++ s.rxst.bits

/-- The W1C write of STATUS: bit 1 clears DONE (the return from a completion, 60_exceptions.md R284), bit 2 clears CMD_ERR
(40_host_access.md R138). -/
def writeStatus (v : Word) (s : State) : State :=
  { s with
    done := if v.getLsbD 1 then false else s.done
    cmdErr := if v.getLsbD 2 then false else s.cmdErr }

/-- `rx_ready` (10_state.md R46). -/
def State.rxReady (s : State) : Bool := decide (s.rxst ≠ .idle)

/-- `tx_valid` (10_state.md R46). -/
def State.txValid (s : State) : Bool := decide (s.sqst = .xmit)

/-- `tx_data`, free while `tx_valid` = 0 (10_state.md R46, 93 I6). -/
def State.txData (s : State) : Byte :=
  if s.txValid then s.txFrameByte s.txPos.toNat else Config.idleTxData s.draws

/-- `tx_last` (10_state.md R46). -/
def State.txLast (s : State) : Bool := s.txValid && decide (s.txPos.toNat = s.txLen.toNat + 6)

/-- `irq` (60_exceptions.md R283). -/
def State.irq (s : State) : Bool := s.ie && (s.done || s.cmdErr)

/-- The platform's interrupt line and the level the block drives on it (60_exceptions.md R283, parameter IRQ_LINE). -/
def State.irqDrive (s : State) : Nat × Bool := (Config.irqLine, s.irq)

end Sys2Proof.Machine
end

