-- ==== Sys2Proof/Machine/Operands.lean ====
section
/-! DEFINITION. The host registers' contents as reads return them and as writes store them, register by register
(10_state.md R20 to R39): every bit a field table does not list reads 0 and is ignored on a write (R23). -/

namespace Sys2Proof.Machine

/-- CONFIG as a read returns it (40_host_access.md R139). -/
def State.configWord (s : State) : Word :=
  0#15 ++ BitVec.ofBool s.ie ++ s.irrBound ++ s.maxAttempts

/-- The store of a CONFIG write (40_host_access.md R140). -/
def writeConfig (v : Word) (s : State) : State :=
  { s with maxAttempts := v.extractLsb' 0 8, irrBound := v.extractLsb' 8 8, ie := v.getLsbD 16 }

/-- The store of a TX_LEN write (40_host_access.md R142). -/
def writeTxLen (v : Word) (s : State) : State := { s with txLen := v.extractLsb' 0 16 }

/-- The store of a TX_INDEX write (40_host_access.md R144). -/
def writeTxIndex (v : Word) (s : State) : State := { s with txIndex := v.extractLsb' 0 16 }

/-- TX_DATA as a read returns it (40_host_access.md R145). -/
def State.txDataWord (s : State) : Word := (s.txByte s.txIndex.toNat).setWidth 32

/-- The store of a TX_DATA write, after which TX_INDEX advances modulo 65536 (40_host_access.md R146). -/
def writeTxData (v : Word) (s : State) : State :=
  { s with txBuf := memWrite s.txBuf s.txIndex.toNat (v.extractLsb' 0 8), txIndex := s.txIndex + 1 }

/-- The store of an RX_INDEX write (40_host_access.md R150). -/
def writeRxIndex (v : Word) (s : State) : State := { s with rxIndex := v.extractLsb' 0 17 }

/-- RX_DATA as a read returns it while no operation runs: 0 where RX_BUF has no byte (40_host_access.md R151). -/
def State.rxDataWord (s : State) : Word :=
  if s.rxIndex.toNat < Config.rxBufSize then (s.rxByte s.rxIndex.toNat).setWidth 32 else 0#32

end Sys2Proof.Machine
end

