-- ==== Sys2Proof/Machine/Command.lean ====
section
/-! DEFINITION. The meanings of the six command words, each a CMD write with its OP (30_encoding.md R110 to R113). The
ignored bits [31:4] have no part in any of them (R113). -/

namespace Sys2Proof.Machine

/-- NOP: no effect at any time, and CMD_ERR is never set (40_host_access.md R135, 30_encoding.md R111). -/
def execCmdNop (_hi : BitVec 28) (s : State) : Outcome State := hostWrite (issueCommand 0x0#4) s

/-- RECV: receive one frame (42_decoder.md R191). -/
def execCmdRecv (_hi : BitVec 28) (s : State) : Outcome State := hostWrite (issueCommand 0x1#4) s

/-- XMIT: transmit the frame in TX_BUF (41_encoder.md R170). -/
def execCmdXmit (_hi : BitVec 28) (s : State) : Outcome State := hostWrite (issueCommand 0x2#4) s

/-- SEND: transmit and await the acknowledgement, with retries (43_sequencer.md R230). -/
def execCmdSend (_hi : BitVec 28) (s : State) : Outcome State := hostWrite (issueCommand 0x3#4) s

/-- The reserved commands 0x4 to 0x7: refused (30_encoding.md R112). -/
def execCmdReserved4to7 (low : BitVec 2) (_hi : BitVec 28) (s : State) : Outcome State :=
  hostWrite (issueCommand (0b01#2 ++ low)) s

/-- The reserved commands 0x8 to 0xF: refused (30_encoding.md R112). -/
def execCmdReserved8toF (low : BitVec 3) (_hi : BitVec 28) (s : State) : Outcome State :=
  hostWrite (issueCommand (0b1#1 ++ low)) s

end Sys2Proof.Machine
end

