-- ==== Sys2Proof/Machine/HostRead.lean ====
section
/-! DEFINITION. The meanings of the sixteen host reads (40_host_access.md R131 to R163). No read has a side effect on the
block (20_memory.md R77). -/

namespace Sys2Proof.Machine

/-- RD ID: the constant, also while the reset input is asserted (10_state.md R24; log entry 6) (40_host_access.md R131). -/
def execRdId (s : State) : Outcome State := .next (respond (.data Config.idValue) s)

/-- RD CMD: CMD holds no value: 0 (40_host_access.md R133). -/
def execRdCmd (s : State) : Outcome State := hostRead 0#32 s

/-- RD STATUS: STATUS; reading clears no flag (40_host_access.md R136). -/
def execRdStatus (s : State) : Outcome State := hostRead s.statusWord s

/-- RD CONFIG: CONFIG (40_host_access.md R139). -/
def execRdConfig (s : State) : Outcome State := hostRead s.configWord s

/-- RD TX_LEN: TX_LEN (40_host_access.md R141). -/
def execRdTxLen (s : State) : Outcome State := hostRead (s.txLen.setWidth 32) s

/-- RD TX_INDEX: TX_INDEX (40_host_access.md R143). -/
def execRdTxIndex (s : State) : Outcome State := hostRead (s.txIndex.setWidth 32) s

/-- RD TX_DATA: TX_BUF[TX_INDEX]; TX_INDEX does not advance (40_host_access.md R145). -/
def execRdTxData (s : State) : Outcome State := hostRead s.txDataWord s

/-- RD RX_LEN: RX_LEN (40_host_access.md R147). -/
def execRdRxLen (s : State) : Outcome State := hostRead (s.rxLen.setWidth 32) s

/-- RD RX_INDEX: RX_INDEX (40_host_access.md R149). -/
def execRdRxIndex (s : State) : Outcome State := hostRead (s.rxIndex.setWidth 32) s

/-- RD RX_DATA: RX_BUF[RX_INDEX]; while an operation runs, a free byte under 24 zero bits (40_host_access.md R151,
70_reset_and_hazards.md R308; log entry 4). -/
def execRdRxData (s : State) : Outcome State :=
  if s.busy && !s.inReset then .next (respond (.data ((Config.busyByte s.draws).setWidth 32)) (draw s))
  else hostRead s.rxDataWord s

/-- RD ATTEMPTS: ATTEMPTS (40_host_access.md R153). -/
def execRdAttempts (s : State) : Outcome State := hostRead (s.attempts.setWidth 32) s

/-- RD IRR_COUNT: IRR_COUNT (40_host_access.md R155). -/
def execRdIrrCount (s : State) : Outcome State := hostRead (s.irrCount.setWidth 32) s

/-- RD RX_POS: RX_POS (40_host_access.md R157). -/
def execRdRxPos (s : State) : Outcome State := hostRead (s.rxPos.setWidth 32) s

/-- RD TX_POS: TX_POS (40_host_access.md R159). -/
def execRdTxPos (s : State) : Outcome State := hostRead (s.txPos.setWidth 32) s

/-- RD STATE: STATE (40_host_access.md R161). -/
def execRdState (s : State) : Outcome State := hostRead s.stateWord s

/-- RD 0x3C: offset 0x3C reads 0 (40_host_access.md R163). -/
def execRdReserved3C (s : State) : Outcome State := hostRead 0#32 s

end Sys2Proof.Machine
end

