-- ==== Sys2Proof/Machine/HostWrite.lean ====
section
/-! DEFINITION. The meanings of the sixteen host writes (40_host_access.md R132 to R164). -/

namespace Sys2Proof.Machine

/-- WR ID: ignored, the register is read-only (40_host_access.md R132). -/
def execWrId (_v : Word) (s : State) : Outcome State := hostWrite ignoreWrite s

/-- WR CMD: the command whose code is bits [3:0] of the value (40_host_access.md R134). -/
def execWrCmd (v : Word) (s : State) : Outcome State := hostWrite (issueCommand (v.extractLsb' 0 4)) s

/-- WR STATUS: write 1 to clear DONE and CMD_ERR, never refused (40_host_access.md R138). -/
def execWrStatus (v : Word) (s : State) : Outcome State := hostWrite (writeStatus v) s

/-- WR CONFIG: stored, or refused while an operation runs (R137) (40_host_access.md R140). -/
def execWrConfig (v : Word) (s : State) : Outcome State := hostWrite (unlessBusy (writeConfig v)) s

/-- WR TX_LEN: stored, or refused while an operation runs (R137) (40_host_access.md R142). -/
def execWrTxLen (v : Word) (s : State) : Outcome State := hostWrite (unlessBusy (writeTxLen v)) s

/-- WR TX_INDEX: stored, or refused while an operation runs (R137) (40_host_access.md R144). -/
def execWrTxIndex (v : Word) (s : State) : Outcome State := hostWrite (unlessBusy (writeTxIndex v)) s

/-- WR TX_DATA: stored in TX_BUF[TX_INDEX], or refused while an operation runs (R137) (40_host_access.md R146). -/
def execWrTxData (v : Word) (s : State) : Outcome State := hostWrite (unlessBusy (writeTxData v)) s

/-- WR RX_LEN: ignored, the register is read-only (40_host_access.md R148). -/
def execWrRxLen (_v : Word) (s : State) : Outcome State := hostWrite ignoreWrite s

/-- WR RX_INDEX: stored at any time (40_host_access.md R150). -/
def execWrRxIndex (v : Word) (s : State) : Outcome State := hostWrite (writeRxIndex v) s

/-- WR RX_DATA: ignored, the host cannot write RX_BUF (40_host_access.md R152). -/
def execWrRxData (_v : Word) (s : State) : Outcome State := hostWrite ignoreWrite s

/-- WR ATTEMPTS: ignored, the register is read-only (40_host_access.md R154). -/
def execWrAttempts (_v : Word) (s : State) : Outcome State := hostWrite ignoreWrite s

/-- WR IRR_COUNT: ignored, the register is read-only (40_host_access.md R156). -/
def execWrIrrCount (_v : Word) (s : State) : Outcome State := hostWrite ignoreWrite s

/-- WR RX_POS: ignored, the register is read-only (40_host_access.md R158). -/
def execWrRxPos (_v : Word) (s : State) : Outcome State := hostWrite ignoreWrite s

/-- WR TX_POS: ignored, the register is read-only (40_host_access.md R160). -/
def execWrTxPos (_v : Word) (s : State) : Outcome State := hostWrite ignoreWrite s

/-- WR STATE: ignored, the register is read-only (40_host_access.md R162). -/
def execWrState (_v : Word) (s : State) : Outcome State := hostWrite ignoreWrite s

/-- WR 0x3C: ignored, the offset is reserved (40_host_access.md R164). -/
def execWrReserved3C (_v : Word) (s : State) : Outcome State := hostWrite ignoreWrite s

end Sys2Proof.Machine
end

