-- ==== Sys2Proof/Machine/Wire.lean ====
section
/-! DEFINITION. The meanings of the wire rows: a frame that RXSRC delivers, and the three identifiers the sequencer tells
apart in a good frame received in a SEND wait (30_encoding.md R100, 43_sequencer.md R237). -/

namespace Sys2Proof.Machine

/-- FRAME: its L + 7 bytes are offered one after another; each is taken while the block takes RX events
(30_encoding.md R100, R104; 42_decoder.md R192 to R200; log entry 14). -/
def execFrame (ident : Byte) (payload : List Byte) (s : State) : Outcome State :=
  takeBytes (frameBytes ident payload) s

/-- FRAME_ACK: a matching ACK completes the SEND with OK, any other ACK is irrelevant (43_sequencer.md R237, R242). -/
def execFrameAck (s : State) : Outcome State := .next (classifyAs Config.ackId s)

/-- FRAME_NACK: a matching NACK fails the attempt, any other NACK is irrelevant (43_sequencer.md R237, R242). -/
def execFrameNack (s : State) : Outcome State := .next (classifyAs Config.nackId s)

/-- FRAME_OTHER_ID: an irrelevant frame (43_sequencer.md R237, R238). -/
def execFrameOtherId (ident : Byte) (s : State) : Outcome State := .next (classifyAs ident s)

end Sys2Proof.Machine
end

