-- ==== Sys2Proof/Machine/Dispatch.lean ====
section
/-! DEFINITION. The meaning of every instruction: one arm per constructor of Instr, in the opcode table's order. -/

namespace Sys2Proof.Machine

def exec (i : Instr) (s : State) : Host.Outcome State Fault Refusal :=
  match i with
  | .rdId => Sys2Proof.Machine.execRdId s
  | .wrId v => Sys2Proof.Machine.execWrId v s
  | .rdCmd => Sys2Proof.Machine.execRdCmd s
  | .wrCmd v => Sys2Proof.Machine.execWrCmd v s
  | .rdStatus => Sys2Proof.Machine.execRdStatus s
  | .wrStatus v => Sys2Proof.Machine.execWrStatus v s
  | .rdConfig => Sys2Proof.Machine.execRdConfig s
  | .wrConfig v => Sys2Proof.Machine.execWrConfig v s
  | .rdTxLen => Sys2Proof.Machine.execRdTxLen s
  | .wrTxLen v => Sys2Proof.Machine.execWrTxLen v s
  | .rdTxIndex => Sys2Proof.Machine.execRdTxIndex s
  | .wrTxIndex v => Sys2Proof.Machine.execWrTxIndex v s
  | .rdTxData => Sys2Proof.Machine.execRdTxData s
  | .wrTxData v => Sys2Proof.Machine.execWrTxData v s
  | .rdRxLen => Sys2Proof.Machine.execRdRxLen s
  | .wrRxLen v => Sys2Proof.Machine.execWrRxLen v s
  | .rdRxIndex => Sys2Proof.Machine.execRdRxIndex s
  | .wrRxIndex v => Sys2Proof.Machine.execWrRxIndex v s
  | .rdRxData => Sys2Proof.Machine.execRdRxData s
  | .wrRxData v => Sys2Proof.Machine.execWrRxData v s
  | .rdAttempts => Sys2Proof.Machine.execRdAttempts s
  | .wrAttempts v => Sys2Proof.Machine.execWrAttempts v s
  | .rdIrrCount => Sys2Proof.Machine.execRdIrrCount s
  | .wrIrrCount v => Sys2Proof.Machine.execWrIrrCount v s
  | .rdRxPos => Sys2Proof.Machine.execRdRxPos s
  | .wrRxPos v => Sys2Proof.Machine.execWrRxPos v s
  | .rdTxPos => Sys2Proof.Machine.execRdTxPos s
  | .wrTxPos v => Sys2Proof.Machine.execWrTxPos v s
  | .rdState => Sys2Proof.Machine.execRdState s
  | .wrState v => Sys2Proof.Machine.execWrState v s
  | .rdReserved3C => Sys2Proof.Machine.execRdReserved3C s
  | .wrReserved3C v => Sys2Proof.Machine.execWrReserved3C v s
  | .cmdNop hi => Sys2Proof.Machine.execCmdNop hi s
  | .cmdRecv hi => Sys2Proof.Machine.execCmdRecv hi s
  | .cmdXmit hi => Sys2Proof.Machine.execCmdXmit hi s
  | .cmdSend hi => Sys2Proof.Machine.execCmdSend hi s
  | .cmdReserved4to7 low hi => Sys2Proof.Machine.execCmdReserved4to7 low hi s
  | .cmdReserved8toF low hi => Sys2Proof.Machine.execCmdReserved8toF low hi s
  | .frame ident payload => Sys2Proof.Machine.execFrame ident payload s
  | .frameAck => Sys2Proof.Machine.execFrameAck s
  | .frameNack => Sys2Proof.Machine.execFrameNack s
  | .frameOtherId ident => Sys2Proof.Machine.execFrameOtherId ident s

end Sys2Proof.Machine
end

