-- ==== Sys2Proof/Machine/Turn.lean ====
section
/-! DEFINITION. How the agents' turns reach the block: the host port's admission check and fetch (20_memory.md R74, R75,
40_host_access.md R130), the two handshakes (R190, R171), the fetch of a whole frame, the reset input, and where a word of the
opcode table is placed so that the next turn runs it. -/

namespace Sys2Proof.Machine

/-- The access a host's byte address makes in a window at `base`; below the window there is none (20_memory.md R78). -/
def accessAt (base addr width : Nat) (dir : Dir) (data : Word) : Option Access :=
  if base ≤ addr then some { dir := dir, off := addr - base, width := width, data := data } else none

/-- The host's turn: an access outside the window is not the block's (20_memory.md R78); one that is no aligned word is
answered with BusError and changes nothing (R75; log entry 8); an admitted one runs its instruction (R130). -/
def hostTurn (a : Access) (s : State) : Outcome State :=
  if Config.windowSize ≤ a.off then .next (respond .none s)
  else if a.off % 4 ≠ 0 ∨ a.width ≠ 4 then .next (respond .busError s)
  else
    match decodeAccess a.dir a.off a.data with
    | .ok i => exec i s
    | .error _ => .next (respond .busError s)

/-- RXSRC's turn: the block takes the event offered first, if it takes RX events and there is one; otherwise nothing happens
(42_decoder.md R190, 20_memory.md R80, 70_reset_and_hazards.md R311). -/
def rxTurn (s : State) : Outcome State :=
  if s.takesRx then
    match s.rxQ with
    | [] => .next s
    | e :: q => takeEvent e (setRxQ q s)
  else .next s

/-- The bytes that RXSRC offers before its first event that is no byte. -/
def leadingBytes : List RxEvent → List Byte
  | .byte b :: q => b :: leadingBytes q
  | .eos :: _ => []
  | .rxErr :: _ => []
  | [] => []

/-- RXSRC's turn for a whole frame: the frame its queue begins with is fetched, decoded and run; where it begins with none,
RXSRC offers one event (log entry 14). -/
def rxFrameTurn (s : State) : Outcome State :=
  match decode .wire (leadingBytes s.rxQ) with
  | .ok (i, rest) => exec i (setRxQ (s.rxQ.drop ((leadingBytes s.rxQ).length - rest.length)) s)
  | .error _ => rxTurn s

/-- TXSNK's turn: it answers the byte on offer; while none is, there is no handshake (41_encoder.md R171). -/
def txTurn (ans : TxAnswer) (s : State) : Outcome State :=
  if s.offersTx then .next (txAnswer ans s) else .next s

/-- One turn (00_scope.md R7, 20_memory.md R82, 70_reset_and_hazards.md R300). -/
def takeTurn (t : Turn) (s : State) : Outcome State :=
  match t with
  | .host a => hostTurn a s
  | .rx => rxTurn s
  | .rxFrame => rxFrameTurn s
  | .tx ans => txTurn ans s
  | .assertReset => .next (resetStep s)
  | .releaseReset => .next (releaseReset s)

/-- The turns still to be taken. -/
def setAgenda (rest : List Turn) (s : State) : State := { s with agenda := rest }

/-- The machine's step: the first turn of the agenda is taken. With no turn to take no agent acts, and the block holds all
its state (20_memory.md R82, 60_exceptions.md R290; log entry 12). -/
def nextTurn (s : State) : Outcome State :=
  match s.agenda with
  | [] => .next s
  | t :: rest => takeTurn t (setAgenda rest s)

/-- The host access that presents an instruction of format BUS or CMD (30_encoding.md R114, R110). -/
def accessOf (i : Instr) : Option Access :=
  match i.format, encode i with
  | .bus, [key] => some { dir := .read, off := key.toNat, width := 4, data := 0#32 }
  | .bus, [key, b0, b1, b2, b3] =>
    some { dir := .write, off := key.toNat % 64, width := 4, data := wordOfBytes b0 b1 b2 b3 }
  | .cmd, [b0, b1, b2, b3] => some { dir := .write, off := Reg.off .cmd, width := 4, data := wordOfBytes b0 b1 b2 b3 }
  | _, _ => none

/-! Where a word of the opcode table stands for the next step to run it (log entries 2, 17 and 18). -/

/-- A host access as the next turn. -/
def placeAccess (a : Access) (s : State) : State := { s with agenda := .host a :: s.agenda }

/-- Bytes first in RXSRC's queue, and RXSRC's turn for a whole frame. -/
def placeFrame (bytes : List Byte) (s : State) : State :=
  { s with rxQ := bytes.map .byte ++ s.rxQ, agenda := .rxFrame :: s.agenda }

/-- The wait of a SEND one byte before the end of a good frame with identifier `ident` and no payload, and RXSRC's turn to
offer that byte: the step that takes it classifies `ident` (log entry 18). -/
def placeFrameId (ident : Byte) (s : State) : State :=
  { s with
    busy := true
    done := false
    result := .none
    cause := .none
    op := .send
    sqst := .recv
    rxst := .body
    attempts := 1
    irrCount := 0
    rxLen := 1
    rxPos := 3
    rxXor := ident
    rxBuf := memWrite (memWrite (memWrite s.rxBuf 0 ident) 1 ident) 2 Config.marker1
    inReset := false
    rxQ := .byte Config.marker2 :: s.rxQ
    agenda := .rx :: s.agenda }

/-- The state whose next step runs the instruction of a table word. -/
def placeWord (nbits w : Nat) (s : State) : State :=
  match tableFormat nbits w, tableBytes nbits w with
  | .bus, key :: b0 :: b1 :: b2 :: b3 :: _ =>
    placeAccess
      { dir := if key.toNat < 64 then .read else .write, off := key.toNat % 64, width := 4,
        data := wordOfBytes b0 b1 b2 b3 } s
  | .cmd, b0 :: b1 :: b2 :: b3 :: _ =>
    placeAccess { dir := .write, off := Reg.off .cmd, width := 4, data := wordOfBytes b0 b1 b2 b3 } s
  | .wire, bytes => placeFrame bytes s
  | .frameId, b :: _ => placeFrameId b s
  | _, _ => s

end Sys2Proof.Machine
end

