-- ==== Sys2Proof/Machine/Step.lean ====
section
/-! DEFINITION. The step, and the placing of a word of the opcode table where the next step runs it. -/

namespace Sys2Proof.Machine

/-- One step: the next turn of the agents (20_memory.md R82). -/
def step : State → Host.Outcome State Fault Refusal := nextTurn

/-- `s` with the instruction of the table's word `w` (of `nbits` bits) placed so that the very next step runs it. -/
def State.withFetchWord (s : State) (nbits w : Nat) : State := placeWord nbits w s

end Sys2Proof.Machine
end

