-- ==== Sys2Proof/Machine/Pseudo.lean ====
section
/-! DEFINITION. The host-program pseudo-instructions and their expansions (30_encoding.md R117), and the run of a host program
with no other agent's turn between its accesses. -/

namespace Sys2Proof.Machine

/-- `CMD <op>` (30_encoding.md R117). -/
def pseudoCmd (op : BitVec 4) : List Instr := [.wrCmd (op.setWidth 32)]

/-- `LOADTX <id>, <p0>, …`: TX_INDEX to 0, the bytes, then TX_LEN (30_encoding.md R117). -/
def pseudoLoadTx (ident : Byte) (payload : List Byte) : List Instr :=
  .wrTxIndex 0#32 :: (ident :: payload).map (fun b => .wrTxData (b.setWidth 32))
    ++ [.wrTxLen (BitVec.ofNat 32 (payload.length + 1))]

/-- `WAITDONE`, when the read that returns DONE = 1 is the n-th: a program does not fix n, and there is none if the operation
does not complete (30_encoding.md R117, 70_reset_and_hazards.md R311). -/
def pseudoWaitDone (n : Nat) : List Instr := List.replicate n .rdStatus

/-- `CLRDONE` (30_encoding.md R117). -/
def pseudoClrDone : List Instr := [.wrStatus 0x2#32]

/-- `CLRERR` (30_encoding.md R117). -/
def pseudoClrErr : List Instr := [.wrStatus 0x4#32]

/-- `SETCFG <attempts>, <bound>, <ie>` (30_encoding.md R117). -/
def pseudoSetCfg (attempts bound : Byte) (ie : Bool) : List Instr :=
  [.wrConfig (0#15 ++ BitVec.ofBool ie ++ bound ++ attempts)]

/-- `RDRX <i>` (30_encoding.md R117). -/
def pseudoRdRx (i : Word) : List Instr := [.wrRxIndex i, .rdRxData]

/-- The host's turns for a program, in order (30_encoding.md R115). -/
def hostTurns (program : List Instr) : List Turn := (program.filterMap accessOf).map .host

/-- A program's instructions run one after another. -/
def execAll : List Instr → State → Outcome State
  | [], s => .next s
  | i :: rest, s =>
    match exec i s with
    | .next t => execAll rest t
    | .fault r => .fault r
    | .refused r => .refused r

end Sys2Proof.Machine
end

