-- ==== Sys2Proof/Safety.lean ====
section
/-! DEFINITION. What every state reachable from reset satisfies (10_state.md R44 and the bounds and record rules beside it), in
the terms claims use. A safe run is one whose every state satisfies it. -/

namespace Sys2Proof.Machine

/-- The codes a SEND attempt can fail with (43_sequencer.md R240). -/
def Code.isAttemptCause : Code → Bool
  | .endMarker | .checksum | .zeroLen | .eos | .rxErr | .nack | .irrelevant => true
  | .none | .ok | .txErr | .exceeded => false

/-- The result and cause an operation can end with (60_exceptions.md R277, 43_sequencer.md R247). -/
def Op.canEndWith (op : Op) (result cause : Code) : Bool :=
  match op, result with
  | .recv, .ok | .recv, .endMarker | .recv, .checksum | .recv, .zeroLen | .recv, .eos | .recv, .rxErr =>
    decide (cause = .none)
  | .xmit, .ok | .xmit, .txErr => decide (cause = .none)
  | .send, .ok | .send, .txErr => decide (cause = .none)
  | .send, .exceeded => decide (cause = .none) || cause.isAttemptCause
  | _, _ => false

/-- The control state is one of those the spec names: no operation, the encoder of an XMIT or SEND, the receiver of a RECV or
SEND (10_state.md R43, R44). -/
structure State.ControlInv (s : State) : Prop where
  busy_iff : s.busy = true ↔ s.sqst ≠ .idle
  receiver_iff : s.rxst ≠ .idle ↔ s.sqst = .recv
  busy_no_result : s.busy = true → s.result = .none ∧ s.cause = .none
  busy_not_done : s.busy = true → s.done = false
  busy_op : s.busy = true → s.op ≠ .nop
  xmit_op : s.sqst = .xmit → s.op = .xmit ∨ s.op = .send
  recv_op : s.sqst = .recv → s.op = .recv ∨ s.op = .send
  busy_len : s.busy = true → s.op ≠ .recv → 1 ≤ s.txLen.toNat
  done_result : s.done = true → s.op.canEndWith s.result s.cause = true
  result_legal : s.result ≠ .none → s.op.canEndWith s.result s.cause = true
  cause_legal : s.cause ≠ .none → s.result = .exceeded
  cause_lcause : s.cause ≠ .none → s.cause = s.lcause
  lcause_send : s.lcause ≠ .none → s.op = .send ∧ s.lcause.isAttemptCause = true
  reset_values : s.inReset = true → resetStep s = s

/-- The counters stay within the frame and the configuration (10_state.md R34 to R37, 43_sequencer.md R232, R238). -/
structure State.CounterInv (s : State) : Prop where
  rx_pos : s.rxPos.toNat ≤ s.rxLen.toNat + 3
  rx_pos_body : s.rxst = .body → s.rxPos.toNat < s.rxLen.toNat + 3
  rx_pos_header : s.rxst ≠ .idle → s.rxst ≠ .body → s.rxPos = 0
  tx_pos : s.txPos.toNat ≤ 65542
  tx_pos_xmit : s.sqst = .xmit → s.txPos.toNat ≤ s.txLen.toNat + 6
  irr_count : s.irrCount.toNat ≤ 256
  send_attempts : s.busy = true → s.op = .send →
    1 ≤ s.attempts.toNat ∧ s.attempts.toNat ≤ s.maxAttempts.toNat ∧ s.irrCount.toNat ≤ s.irrBound.toNat
  lcause_attempts : s.lcause ≠ .none → 1 ≤ s.attempts.toNat
  lcause_retry : s.busy = true → s.lcause ≠ .none → 2 ≤ s.attempts.toNat
  exceeded_unsent : s.result = .exceeded → s.cause = .none → s.attempts = 0

/-- The running checksums are those of the bytes taken or accepted so far (10_state.md R38, 41_encoder.md R172,
42_decoder.md R197). -/
structure State.ChecksumInv (s : State) : Prop where
  rx_xor : s.rxst = .body → s.rxXor = s.rxXorTo (min s.rxPos.toNat s.rxLen.toNat)
  tx_xor : s.sqst = .xmit → s.txXor = s.txXorTo (min (s.txPos.toNat - 4) s.txLen.toNat)

/-- Both buffers are in canonical form, with no byte outside them (10_state.md R40, R41). -/
structure State.BufferInv (s : State) : Prop where
  tx_wf : Memory.wf Config.txBufSize s.txBuf
  rx_wf : Memory.wf Config.rxBufSize s.rxBuf

/-- The invariant of every reachable state. -/
structure State.Inv (s : State) : Prop where
  control : s.ControlInv
  counters : s.CounterInv
  checksums : s.ChecksumInv
  buffers : s.BufferInv

end Sys2Proof.Machine
end

