-- ==== Sys2Proof/Certificates/Slice0/Obligations.lean ====
section
/-! DEFINITION. The statements for the provers, and the few notions they are worded in. -/

open Sys2Proof Sys2Proof.Machine

namespace Sys2Proof.Claims

/-- `n` steps of the machine, stopping at a fault or a refusal. -/
def runSteps : Nat → State → Outcome State
  | 0, s => .next s
  | n + 1, s =>
    match step s with
    | .next t => runSteps n t
    | .fault r => .fault r
    | .refused r => .refused r

/-- The payload of the frame in TX_BUF, TX_BUF[1 .. L-1] (10_state.md R40). -/
def txPayload (s : State) : List Byte := (List.range (s.txLen.toNat - 1)).map fun i => s.txByte (i + 1)

/-- The bytes of the frame in TX_BUF on the wire (30_encoding.md R100, 41_encoder.md R172). -/
def txFrame (s : State) : List Byte := encode (.frame (s.txByte 0) (txPayload s))

/-- The events of bytes in order. -/
def events (bs : List Byte) : List RxEvent := bs.map .byte

/-- A host write of a register's word. -/
def wordWrite (r : Reg) (v : Word) : Turn := .host { dir := .write, off := r.off, width := 4, data := v }

/-- The host writes that are refused (60_exceptions.md R279). -/
def refused (r : Reg) (v : Word) (s : State) : Prop :=
  (r = .cmd ∧
    (4 ≤ (v.extractLsb' 0 4).toNat ∨
     ((v.extractLsb' 0 4).toNat ∈ [1, 2, 3] ∧ s.busy = true) ∨
     ((v.extractLsb' 0 4).toNat ∈ [2, 3] ∧ s.txLen.toNat = 0))) ∨
  (r ∈ [Reg.config, .txLen, .txIndex, .txData] ∧ s.busy = true)

/-- The number of a result or cause in R270's table (60_exceptions.md R270, R271). -/
def codeNumber : Code → Nat
  | .none => 0
  | .ok => 1
  | .endMarker => 2
  | .checksum => 3
  | .zeroLen => 4
  | .eos => 5
  | .rxErr => 6
  | .txErr => 7
  | .nack => 8
  | .irrelevant => 9
  | .exceeded => 10

/-- The number of an operation in R110's table (30_encoding.md R110). -/
def opNumber : Op → Nat
  | .nop => 0
  | .recv => 1
  | .xmit => 2
  | .send => 3

/-- The number of a receiver state in R42's table (10_state.md R42). -/
def rxstNumber : RxSt → Nat
  | .idle => 0
  | .seek1 => 1
  | .seek2 => 2
  | .lenH => 3
  | .lenL => 4
  | .body => 5

/-- The number of a sequencer state in R43's table (10_state.md R43). -/
def sqstNumber : SqSt → Nat
  | .idle => 0
  | .xmit => 1
  | .recv => 2

/-- No two adjacent bytes are 0xA0 0xA1 (42_decoder.md R206). -/
def noPreamble : List Byte → Bool
  | a :: b :: rest => !(decide (a = 0xA0#8) && decide (b = 0xA1#8)) && noPreamble (b :: rest)
  | _ => true

/-- A good frame is irrelevant to the SEND of the frame in TX_BUF: it is no ACK and no NACK whose first payload byte is
TX_BUF[0] (43_sequencer.md R237). -/
def irrelevantTo (s : State) (f : Byte × List Byte) : Prop :=
  ¬ ((f.1 = 0x83#8 ∨ f.1 = 0x84#8) ∧ f.2.head? = some (s.txByte 0))

/-- What a receive ends with: the verdict on a body of `content`, a checksum byte and two marker bytes
(42_decoder.md R200, R203). -/
def bodyVerdict (content : List Byte) (c e1 e2 : Byte) : Code :=
  if e1 ≠ 0x0D#8 ∨ e2 ≠ 0x0A#8 then .endMarker
  else if c ≠ xorBytes content then .checksum
  else if content = [] then .zeroLen
  else .ok

/-- The state a failed attempt with cause `c` leaves (43_sequencer.md R240, R241, R232): the next attempt's transmission if
attempts remain, else the end of the SEND with EXCEEDED. -/
def afterFailure (c : Code) (s : State) : State :=
  if s.attempts.toNat < s.maxAttempts.toNat then
    { s with lcause := c, attempts := s.attempts + 1, irrCount := 0, sqst := .xmit, txPos := 0, txXor := 0 }
  else
    { s with lcause := c, sqst := .idle, rxst := .idle, busy := false, done := true, result := .exceeded, cause := c }

/-- A search that starts at these bytes completes no body: there is no 0xA0 0xA1 among them, or the first one is followed by
fewer bytes than its header and body need (42_decoder.md R192 to R197). -/
def cutShort : List Byte → Bool
  | a :: b :: rest =>
    if a = 0xA0#8 ∧ b = 0xA1#8 then
      match rest with
      | h :: l :: body => decide (body.length < (h ++ l : BitVec 16).toNat + 3)
      | _ => true
    else cutShort (b :: rest)
  | _ => true

/-- What RXSRC offers in one wait of a SEND: good frames, each an identifier and a payload behind garbage, then bytes that
complete no body, then the event that ends the wait. -/
structure Wait where
  frames : List (List Byte × Byte × List Byte)
  tail : List Byte
  ending : RxEvent
deriving DecidableEq, Repr

/-- The bytes of a wait, in order. -/
def Wait.bytes (w : Wait) : List Byte := (w.frames.map fun f => f.1 ++ encode (.frame f.2.1 f.2.2)).flatten ++ w.tail

/-- The events of a wait, in order. -/
def Wait.offered (w : Wait) : List RxEvent := events w.bytes ++ [w.ending]

/-- A wait with no acknowledgement that ends in EOS or RXERR: its good frames are irrelevant to the SEND of the frame in
TX_BUF and no more than IRR_BOUND, and nothing in it is a framing error (43_sequencer.md R236, R238, R245). Every wait that
EOS or RXERR ends, and no framing error, acknowledgement or overflow before, is of this form. -/
def Wait.unanswered (s : State) (w : Wait) : Prop :=
  (∀ f ∈ w.frames, noPreamble f.1 = true ∧ f.2.2.length ≤ 65534 ∧ irrelevantTo s f.2) ∧
  w.frames.length ≤ s.irrBound.toNat ∧ cutShort w.tail = true ∧ (w.ending = .eos ∨ w.ending = .rxErr)

end Sys2Proof.Claims

open Sys2Proof.Claims

/-! Encoding. -/

/-- Decoding an encoded well-formed instruction, whatever bytes follow it, gives it back (30_encoding.md R100, R101, R110,
R114; the byte layout of BUS and CMD words is the model's, log entry 16). -/
def Obligations.DecodeEncodeAgree : Prop :=
  ∀ i : Instr, i.wellFormed = true → ∀ rest : List Byte, decode i.format (encode i ++ rest) = .ok (i, rest)

/-- Bytes that decode are the encoding of a well-formed instruction of that format, followed by the rest: every byte sequence
has at most one reading (30_encoding.md R100 to R103, R110, R114; log entry 16). -/
def Obligations.DecodeYieldsOnlyEncodings : Prop :=
  ∀ (f : Format) (bytes rest : List Byte) (i : Instr), decode f bytes = .ok (i, rest) →
    i.wellFormed = true ∧ i.format = f ∧ bytes = encode i ++ rest

/-- Words written out from the spec decode to their instructions (95_test_vectors.md P1 to P5, W1, W2; 30_encoding.md). -/
def Obligations.DecodeReadsSpecWords : Prop :=
  decodeAccess .write 0x04 0x00000001#32 = .ok (.wrCmd 1#32) ∧
  decodeAccess .read 0x38 0#32 = .ok .rdState ∧
  decodeAccess .write 0x0C 0x00010102#32 = .ok (.wrConfig 0x00010102#32) ∧
  decodeAccess .read 0x0A 0#32 = .error .badOffset ∧
  decodeCommand 0x10#32 = .cmdNop 1#28 ∧
  decodeCommand 0x3#32 = .cmdSend 0#28 ∧
  decodeCommand 0xF#32 = .cmdReserved8toF 7#3 0#28 ∧
  decodeFrameId 0x84#8 = .frameNack ∧
  decode .wire [0xA0#8, 0xA1#8, 0x00#8, 0x02#8, 0x83#8, 0x02#8, 0x81#8, 0x0D#8, 0x0A#8] =
    .ok (.frame 0x83#8 [0x02#8], []) ∧
  decode .wire [0xA0#8, 0xA1#8, 0x00#8, 0x02#8, 0x83#8, 0x02#8, 0x85#8, 0x0D#8, 0x0A#8] = .error .badChecksum

/-- R113: two CMD writes that differ only in bits [31:4] have the same effect. -/
def Obligations.CommandIgnoresHighBits : Prop :=
  ∀ (v w : Word) (s : State), v.extractLsb' 0 4 = w.extractLsb' 0 4 → exec (.wrCmd v) s = exec (.wrCmd w) s

/-- R110: a CMD write does what the command its low four bits select does. -/
def Obligations.CmdWriteRunsDecodedCommand : Prop :=
  ∀ (v : Word) (s : State), exec (.wrCmd v) s = exec (decodeCommand v) s

/-! The step. -/

/-- An admitted access next on the agenda decodes to a well-formed instruction, and the step is that instruction run after the
turn is taken off the agenda (20_memory.md R74, R76, 40_host_access.md R130; the agenda is the model's, log entry 2). -/
def Obligations.StepRunsAdmittedAccess : Prop :=
  ∀ (s : State) (a : Access) (rest : List Turn), s.agenda = .host a :: rest →
    a.off < 64 → a.off % 4 = 0 → a.width = 4 →
    ∃ i, decodeAccess a.dir a.off a.data = .ok i ∧ i.wellFormed = true ∧ step s = exec i { s with agenda := rest }

/-- Every BUS and CMD instruction is run by the step that takes the access presenting it (30_encoding.md R110, R114; the agenda
is the model's, log entry 2). -/
def Obligations.StepRunsPresentedInstruction : Prop :=
  (∀ i : Instr, i.format = .bus ∨ i.format = .cmd → ∃ a, accessOf i = some a) ∧
  ∀ (i : Instr) (a : Access) (s : State) (rest : List Turn), accessOf i = some a → s.agenda = .host a :: rest →
    step s = exec i { s with agenda := rest }

/-- A whole frame first in RXSRC's queue is run by RXSRC's frame turn, its bytes off the queue (30_encoding.md R100; the frame
turn is the model's, log entry 14). -/
def Obligations.StepRunsOfferedFrame : Prop :=
  ∀ (s : State) (ident : Byte) (payload : List Byte) (q : List RxEvent) (rest : List Turn),
    payload.length ≤ 65534 → s.agenda = .rxFrame :: rest →
    s.rxQ = events (encode (.frame ident payload)) ++ q →
    step s = exec (.frame ident payload) { s with agenda := rest, rxQ := q }

/-- The step that takes the last byte of a good body in a SEND wait runs the FRAME_ID instruction of RX_BUF[0], after the byte
is stored and both ports are at rest (42_decoder.md R197, R200, R204; 43_sequencer.md R236, R237). -/
def Obligations.StepClassifiesGoodFrame : Prop :=
  ∀ (s : State) (q : List RxEvent) (rest : List Turn),
    s.agenda = .rx :: rest → s.rxQ = .byte 0x0A#8 :: q →
    s.inReset = false → s.rxst = .body → s.op = .send →
    1 ≤ s.rxLen.toNat → s.rxPos.toNat = s.rxLen.toNat + 2 →
    s.rxByte (s.rxLen.toNat + 1) = 0x0D#8 → s.rxByte s.rxLen.toNat = s.rxXor →
    step s = exec (decodeFrameId (s.rxByte 0))
      { s with
        agenda := rest, rxQ := q, rxst := .idle, sqst := .idle,
        rxBuf := memWrite s.rxBuf s.rxPos.toNat 0x0A#8, rxPos := s.rxPos + 1 }

/-- A FRAME is its L + 7 RX handshakes: RXSRC's turns for its bytes one by one end as the instruction does, in a next state or
in a fault (30_encoding.md R104, 20_memory.md R80, R82). -/
def Obligations.FrameIsItsHandshakes : Prop :=
  ∀ (s : State) (ident : Byte) (payload : List Byte) (q : List RxEvent) (rest : List Turn),
    s.agenda = List.replicate (payload.length + 8) Turn.rx ++ rest →
    s.rxQ = events (encode (.frame ident payload)) ++ q →
    runSteps (payload.length + 8) s = exec (.frame ident payload) { s with agenda := rest, rxQ := q }

/-- R75: an access in the window that is no aligned word is answered with BusError, and no state of the block changes. That a
BusError is a next state, and that R75 holds while the reset input is asserted too, are the model's choices, log entries 8 and
7; the agenda is the model's, log entry 2. -/
def Obligations.MisalignedAccessChangesNothing : Prop :=
  ∀ (s : State) (base addr width : Nat) (dir : Dir) (v : Word) (a : Access) (rest : List Turn),
    64 ∣ base → base ≤ addr → addr < base + 64 → (addr % 4 ≠ 0 ∨ width ≠ 4) →
    accessAt base addr width dir v = some a → s.agenda = .host a :: rest →
    step s = .next { s with agenda := rest, resp := .busError }

/-- An access outside the window is not the block's and changes none of its state (20_memory.md R78). -/
def Obligations.AccessOutsideWindowChangesNothing : Prop :=
  ∀ (s : State) (base addr width : Nat) (dir : Dir) (v : Word),
    (addr < base → accessAt base addr width dir v = none) ∧
    (base + 64 ≤ addr → ∃ a, accessAt base addr width dir v = some a ∧
      ∀ rest, s.agenda = .host a :: rest → step s = .next { s with agenda := rest, resp := .none })

/-! Host reads. -/

/-- R131, R133, R163: ID reads its constant at all times, CMD and the reserved offset read 0. That RD ID returns the constant
while the reset input is asserted (R131, R24), where R300 and 93 I5 let a read return any word, is the model's choice, log
entry 6. -/
def Obligations.ReadIdCmdAndReserved : Prop :=
  ∀ s : State,
    exec .rdId s = .next { s with resp := .data 0x534B0007#32 } ∧
    (s.inReset = false →
      exec .rdCmd s = .next { s with resp := .data 0#32 } ∧
      exec .rdReserved3C s = .next { s with resp := .data 0#32 })

/-- R136: the fields of STATUS as a read returns them, RESULT and CAUSE with the numbers of R270 and OP with those of R110;
nothing else changes. -/
def Obligations.ReadStatusFields : Prop :=
  ∀ s : State, s.inReset = false → ∃ v : Word, exec .rdStatus s = .next { s with resp := .data v } ∧
    v.getLsbD 0 = s.busy ∧ v.getLsbD 1 = s.done ∧ v.getLsbD 2 = s.cmdErr ∧ v.getLsbD 3 = false ∧
    (v.extractLsb' 4 4).toNat = codeNumber s.result ∧ (v.extractLsb' 8 4).toNat = codeNumber s.cause ∧
    (v.extractLsb' 12 4).toNat = opNumber s.op ∧
    v.extractLsb' 16 16 = 0#16

/-- R139: the fields of CONFIG as a read returns them; nothing else changes. -/
def Obligations.ReadConfigFields : Prop :=
  ∀ s : State, s.inReset = false → ∃ v : Word, exec .rdConfig s = .next { s with resp := .data v } ∧
    v.extractLsb' 0 8 = s.maxAttempts ∧ v.extractLsb' 8 8 = s.irrBound ∧ v.getLsbD 16 = s.ie ∧
    v.extractLsb' 17 15 = 0#15

/-- R161: the fields of STATE as a read returns them, RXST with the numbers of R42, SQST with those of R43 and LCAUSE with those
of R270; nothing else changes. -/
def Obligations.ReadStateFields : Prop :=
  ∀ s : State, s.inReset = false → ∃ v : Word, exec .rdState s = .next { s with resp := .data v } ∧
    (v.extractLsb' 0 3).toNat = rxstNumber s.rxst ∧ v.getLsbD 3 = false ∧
    (v.extractLsb' 4 2).toNat = sqstNumber s.sqst ∧
    v.extractLsb' 6 2 = 0#2 ∧ v.extractLsb' 8 8 = s.rxXor ∧ v.extractLsb' 16 8 = s.txXor ∧
    (v.extractLsb' 24 4).toNat = codeNumber s.lcause ∧ v.extractLsb' 28 4 = 0#4

/-- R141, R143, R147, R149, R153, R155, R157, R159: the length, index and counter registers read zero-extended, and nothing
else changes. -/
def Obligations.ReadCounterRegisters : Prop :=
  ∀ s : State, s.inReset = false →
    exec .rdTxLen s = .next { s with resp := .data (BitVec.ofNat 32 s.txLen.toNat) } ∧
    exec .rdTxIndex s = .next { s with resp := .data (BitVec.ofNat 32 s.txIndex.toNat) } ∧
    exec .rdRxLen s = .next { s with resp := .data (BitVec.ofNat 32 s.rxLen.toNat) } ∧
    exec .rdRxIndex s = .next { s with resp := .data (BitVec.ofNat 32 s.rxIndex.toNat) } ∧
    exec .rdAttempts s = .next { s with resp := .data (BitVec.ofNat 32 s.attempts.toNat) } ∧
    exec .rdIrrCount s = .next { s with resp := .data (BitVec.ofNat 32 s.irrCount.toNat) } ∧
    exec .rdRxPos s = .next { s with resp := .data (BitVec.ofNat 32 s.rxPos.toNat) } ∧
    exec .rdTxPos s = .next { s with resp := .data (BitVec.ofNat 32 s.txPos.toNat) }

/-- R145: TX_DATA reads TX_BUF[TX_INDEX], the byte last written there, and TX_INDEX does not advance. -/
def Obligations.ReadTxData : Prop :=
  ∀ s : State, s.inReset = false →
    exec .rdTxData s = .next { s with resp := .data (BitVec.ofNat 32 (s.txByte s.txIndex.toNat).toNat) } ∧
    ∀ b, memRead s.txBuf s.txIndex.toNat = some b → s.txByte s.txIndex.toNat = b

/-- R151: RX_DATA reads RX_BUF[RX_INDEX], 0 where there is no byte, and while an operation runs some value whose bits [31:8]
are 0; no register and no buffer changes. -/
def Obligations.ReadRxData : Prop :=
  ∀ s : State, s.inReset = false →
    (s.busy = false → s.rxIndex.toNat < 65538 →
      exec .rdRxData s = .next { s with resp := .data (BitVec.ofNat 32 (s.rxByte s.rxIndex.toNat).toNat) }) ∧
    (s.busy = false → 65538 ≤ s.rxIndex.toNat → exec .rdRxData s = .next { s with resp := .data 0#32 }) ∧
    (s.busy = true → ∃ b : Byte,
      exec .rdRxData s = .next { s with resp := .data (BitVec.ofNat 32 b.toNat), draws := s.draws + 1 })

/-- No host read has a side effect on the block: only its answer, and the model's count of free values, change
(20_memory.md R77; also while the reset input is asserted). -/
def Obligations.ReadsHaveNoSideEffect : Prop :=
  ∀ (r : Reg) (s : State), ∃ (v : Word) (d : Nat), s.draws ≤ d ∧
    exec (readInstr r) s = .next { s with resp := .data v, draws := d }

/-! Host writes. -/

/-- R23 and the rules of the nine ignored writes: a write to a read-only register or to the reserved offset has no effect and
does not set CMD_ERR. -/
def Obligations.ReadOnlyWritesIgnored : Prop :=
  ∀ (v : Word) (s : State), s.inReset = false →
    ∀ i ∈ [Instr.wrId v, .wrRxLen v, .wrRxData v, .wrAttempts v, .wrIrrCount v, .wrRxPos v, .wrTxPos v, .wrState v,
        .wrReserved3C v],
      exec i s = .next { s with resp := .done }

/-- R138: a STATUS write clears DONE where bit 1 is set and CMD_ERR where bit 2 is, and nothing else, busy or not. -/
def Obligations.StatusWriteClearsFlags : Prop :=
  ∀ (v : Word) (s : State), s.inReset = false →
    exec (.wrStatus v) s =
      .next { s with done := s.done && !v.getLsbD 1, cmdErr := s.cmdErr && !v.getLsbD 2, resp := .done }

/-- R140, R142, R144: a write to CONFIG, TX_LEN or TX_INDEX stores the fields of the value and ignores its other bits; while
an operation runs it is refused (R137). -/
def Obligations.ConfigAndLengthWritesStore : Prop :=
  ∀ (v : Word) (s : State), s.inReset = false →
    (s.busy = false →
      exec (.wrConfig v) s = .next { s with
        maxAttempts := v.extractLsb' 0 8, irrBound := v.extractLsb' 8 8, ie := v.getLsbD 16, resp := .done } ∧
      exec (.wrTxLen v) s = .next { s with txLen := v.extractLsb' 0 16, resp := .done } ∧
      exec (.wrTxIndex v) s = .next { s with txIndex := v.extractLsb' 0 16, resp := .done }) ∧
    (s.busy = true →
      ∀ i ∈ [Instr.wrConfig v, .wrTxLen v, .wrTxIndex v], exec i s = .next { s with cmdErr := true, resp := .done })

/-- R146: a TX_DATA write stores its low byte in TX_BUF[TX_INDEX], leaves every other byte, and advances TX_INDEX modulo
65536; while an operation runs it is refused (R137). -/
def Obligations.TxDataWriteStoresByte : Prop :=
  ∀ (v : Word) (s : State), s.inReset = false →
    (s.busy = false → ∃ t, exec (.wrTxData v) s = .next t ∧
      t = { s with txBuf := t.txBuf, txIndex := BitVec.ofNat 16 ((s.txIndex.toNat + 1) % 65536), resp := .done } ∧
      t.txByte s.txIndex.toNat = v.extractLsb' 0 8 ∧
      ∀ j, j ≠ s.txIndex.toNat → t.txByte j = s.txByte j) ∧
    (s.busy = true → exec (.wrTxData v) s = .next { s with cmdErr := true, resp := .done })

/-- R150: an RX_INDEX write stores bits [16:0], busy or not. -/
def Obligations.RxIndexWriteStores : Prop :=
  ∀ (v : Word) (s : State), s.inReset = false →
    exec (.wrRxIndex v) s = .next { s with rxIndex := v.extractLsb' 0 17, resp := .done }

/-- R279: over all steps, CMD_ERR is set by exactly the refused host writes, which do nothing else, and cleared by exactly a
STATUS write with bit 2 set and reset. An access while the reset input is asserted is R300's case, not this one. -/
def Obligations.CmdErrChangesExactly : Prop :=
  ∀ (s t : State) (turn : Turn) (rest : List Turn), s.agenda = turn :: rest → step s = .next t →
    (s.cmdErr = false →
      (t.cmdErr = true ↔ ∃ r v, turn = wordWrite r v ∧ s.inReset = false ∧ refused r v s)) ∧
    (s.cmdErr = true →
      (t.cmdErr = false ↔
        turn = .assertReset ∨ ∃ v, turn = wordWrite .status v ∧ s.inReset = false ∧ v.getLsbD 2 = true)) ∧
    (∀ r v, turn = wordWrite r v → s.inReset = false → refused r v s →
      t = { s with agenda := rest, cmdErr := true, resp := .done })

/-- While the reset input is asserted a host access changes no register and no byte of RX_BUF: a read is answered with some
value, a write may change TX_BUF (70_reset_and_hazards.md R300, 93 I5; the free TX_BUF is the model's form, log entry 5). -/
def Obligations.AccessInResetKeepsRegisters : Prop :=
  ∀ (s : State), s.inReset = true →
    (∀ r : Reg, ∃ (w : Word) (d : Nat), exec (readInstr r) s = .next { s with resp := .data w, draws := d }) ∧
    (∀ (r : Reg) (v : Word), ∃ (m : Memory) (e d : Nat),
      exec (writeInstr v r) s = .next { s with txBuf := m, txEpoch := e, draws := d, resp := .done })

/-! Commands. -/

/-- R111, R135: NOP changes no state, busy or not, and never sets CMD_ERR. -/
def Obligations.NopChangesNothing : Prop :=
  ∀ (hi : BitVec 28) (s : State), s.inReset = false →
    exec (.cmdNop hi) s = .next { s with resp := .done } ∧
    exec (.wrCmd (hi ++ 0x0#4)) s = .next { s with resp := .done }

/-- R112: a command with a reserved OP starts nothing and sets CMD_ERR, whether or not an operation is running. -/
def Obligations.ReservedCommandsRefused : Prop :=
  ∀ (hi : BitVec 28) (s : State), s.inReset = false →
    (∀ low : BitVec 2, exec (.cmdReserved4to7 low hi) s = .next { s with cmdErr := true, resp := .done }) ∧
    (∀ low : BitVec 3, exec (.cmdReserved8toF low hi) s = .next { s with cmdErr := true, resp := .done }) ∧
    (∀ op : BitVec 4, 4 ≤ op.toNat → exec (.wrCmd (hi ++ op)) s = .next { s with cmdErr := true, resp := .done })

/-- RECV accepted: STATUS is set up and the receiver starts in SEEK1; RX_LEN and RX_BUF are not cleared
(40_host_access.md R134, 42_decoder.md R191). -/
def Obligations.RecvAcceptedStartsReceiver : Prop :=
  ∀ (hi : BitVec 28) (s : State), s.inReset = false → s.busy = false →
    ∃ t, exec (.cmdRecv hi) s = .next t ∧ exec (.wrCmd (hi ++ 0x1#4)) s = .next t ∧
      t = { s with
        busy := true, done := false, result := .none, cause := .none, op := .recv, lcause := .none,
        sqst := .recv, rxst := .seek1, rxPos := 0, rxXor := 0, resp := .done }

/-- XMIT accepted: STATUS is set up and the encoder starts, with 0xA0 on offer (40_host_access.md R134, 41_encoder.md R170). -/
def Obligations.XmitAcceptedStartsEncoder : Prop :=
  ∀ (hi : BitVec 28) (s : State), s.inReset = false → s.busy = false → 1 ≤ s.txLen.toNat →
    ∃ t, exec (.cmdXmit hi) s = .next t ∧ exec (.wrCmd (hi ++ 0x2#4)) s = .next t ∧
      t = { s with
        busy := true, done := false, result := .none, cause := .none, op := .xmit, lcause := .none,
        sqst := .xmit, txPos := 0, txXor := 0, resp := .done } ∧
      t.txValid = true ∧ t.txData = 0xA0#8

/-- SEND accepted: the first attempt starts; with MAX_ATTEMPTS = 0 it completes in the same write with EXCEEDED
(40_host_access.md R134, 43_sequencer.md R230, R231, R232). -/
def Obligations.SendAcceptedStartsAttempt : Prop :=
  ∀ (hi : BitVec 28) (s : State), s.inReset = false → s.busy = false → 1 ≤ s.txLen.toNat →
    ∃ t, exec (.cmdSend hi) s = .next t ∧ exec (.wrCmd (hi ++ 0x3#4)) s = .next t ∧
      (1 ≤ s.maxAttempts.toNat → t = { s with
        busy := true, done := false, result := .none, cause := .none, op := .send, lcause := .none,
        attempts := 1, irrCount := 0, sqst := .xmit, txPos := 0, txXor := 0, resp := .done }) ∧
      (s.maxAttempts.toNat = 0 → t = { s with
        busy := false, done := true, result := .exceeded, cause := .none, op := .send, lcause := .none,
        attempts := 0, irrCount := 0, sqst := .idle, rxst := .idle, resp := .done })

/-- A command while an operation runs, and XMIT or SEND with TX_LEN = 0, set CMD_ERR and change nothing else: no running
operation is disturbed (40_host_access.md R134, 60_exceptions.md R279). -/
def Obligations.CommandsRefusedWhenBusyOrEmpty : Prop :=
  ∀ (hi : BitVec 28) (s : State), s.inReset = false →
    (s.busy = true →
      ∀ i ∈ [Instr.cmdRecv hi, .cmdXmit hi, .cmdSend hi], exec i s = .next { s with cmdErr := true, resp := .done }) ∧
    (s.txLen.toNat = 0 →
      ∀ i ∈ [Instr.cmdXmit hi, .cmdSend hi], exec i s = .next { s with cmdErr := true, resp := .done })

/-- LOADTX leaves the frame in TX_BUF and its length in TX_LEN, and every other byte of TX_BUF as it was (30_encoding.md R117,
40_host_access.md R142, R144, R146). -/
def Obligations.LoadTxLoadsFrame : Prop :=
  ∀ (s : State) (ident : Byte) (payload : List Byte), s.inReset = false → s.busy = false → payload.length ≤ 65534 →
    ∃ t, execAll (pseudoLoadTx ident payload) s = .next t ∧
      t = { s with
        txBuf := t.txBuf, txLen := BitVec.ofNat 16 (payload.length + 1),
        txIndex := BitVec.ofNat 16 (payload.length + 1), resp := .done } ∧
      t.txByte 0 = ident ∧
      (∀ j (h : j < payload.length), t.txByte (j + 1) = payload[j]) ∧
      (∀ j, payload.length < j → t.txByte j = s.txByte j) ∧
      txFrame t = encode (.frame ident payload)

/-! The receiver. -/

/-- A FRAME delivered to a searching RECV ends it with OK: RX_LEN is its length, RX_BUF[0 .. L+2] its body, RX_POS its body's
size, and nothing else of the block changes (42_decoder.md R191 to R204, 60_exceptions.md R276; FRAME as one run of handshakes
is the model's, log entry 14). -/
def Obligations.FrameCompletesRecv : Prop :=
  ∀ (s : State) (ident : Byte) (payload : List Byte),
    payload.length ≤ 65534 → s.inReset = false → s.op = .recv → s.rxst = .seek1 ∨ s.rxst = .seek2 →
    ∃ t, exec (.frame ident payload) s = .next t ∧
      t = { s with
        busy := false, done := true, result := .ok, cause := .none, sqst := .idle, rxst := .idle,
        rxLen := BitVec.ofNat 16 (payload.length + 1), rxPos := BitVec.ofNat 17 (payload.length + 4),
        rxXor := xorBytes (ident :: payload), rxBuf := t.rxBuf } ∧
      (∀ j (h : j < (ident :: payload).length), t.rxByte j = (ident :: payload)[j]) ∧
      t.rxByte (payload.length + 1) = xorBytes (ident :: payload) ∧
      t.rxByte (payload.length + 2) = 0x0D#8 ∧ t.rxByte (payload.length + 3) = 0x0A#8 ∧
      ∀ j, payload.length + 3 < j → t.rxByte j = s.rxByte j

/-- While `rx_ready` = 0 no byte of a frame is taken: all of them stay with RXSRC, first in its order, and the block is
unchanged (20_memory.md R80, 70_reset_and_hazards.md R313). -/
def Obligations.FrameWaitsWhileNotReady : Prop :=
  ∀ (s : State) (ident : Byte) (payload : List Byte), s.rxReady = false →
    exec (.frame ident payload) s =
      .next { s with rxQ := events (encode (.frame ident payload)) ++ s.rxQ }

/-- Whatever body follows a header, a receiver that starts at its preamble takes exactly L + 7 bytes and reaches the verdict:
END_MARKER before CHECKSUM before ZERO_LEN before OK; the body is in RX_BUF whatever the verdict (42_decoder.md R192 to R204).
A RECV ends with that verdict. In a SEND wait a framing error fails the attempt with that cause, and a good frame is
classified by its identifier (43_sequencer.md R236, R237). The turns and the queue are the model's, log entry 2. -/
def Obligations.ReceiverReachesVerdict : Prop :=
  ∀ (s : State) (h l : Byte) (content : List Byte) (c e1 e2 : Byte) (q : List RxEvent) (rest : List Turn),
    s.inReset = false → s.rxst = .seek1 →
    (h ++ l : BitVec 16).toNat = content.length →
    s.agenda = List.replicate (content.length + 7) Turn.rx ++ rest →
    s.rxQ = events ([0xA0#8, 0xA1#8, h, l] ++ content ++ [c, e1, e2]) ++ q →
    ∃ t,
      t = { s with
        agenda := rest, rxQ := q, sqst := .idle, rxst := .idle, rxLen := h ++ l,
        rxPos := BitVec.ofNat 17 (content.length + 3), rxXor := xorBytes content, rxBuf := t.rxBuf } ∧
      (∀ j (hj : j < (content ++ [c, e1, e2]).length), t.rxByte j = (content ++ [c, e1, e2])[j]) ∧
      (∀ j, content.length + 3 ≤ j → t.rxByte j = s.rxByte j) ∧
      (s.op = .recv → runSteps (content.length + 7) s = .next { t with
        busy := false, done := true, result := bodyVerdict content c e1 e2, cause := .none }) ∧
      (s.op = .send → bodyVerdict content c e1 e2 ≠ .ok →
        runSteps (content.length + 7) s = .next (afterFailure (bodyVerdict content c e1 e2) t)) ∧
      (s.op = .send → bodyVerdict content c e1 e2 = .ok →
        runSteps (content.length + 7) s = exec (decodeFrameId (t.rxByte 0)) t)

/-- R206: a RECV finds a frame behind any garbage without two adjacent bytes 0xA0 0xA1, a trailing 0xA0 included. -/
def Obligations.ReceiverFindsFrameBehindGarbage : Prop :=
  ∀ (s : State) (garbage : List Byte) (ident : Byte) (payload : List Byte) (q : List RxEvent) (rest : List Turn),
    noPreamble garbage = true → payload.length ≤ 65534 →
    s.inReset = false → s.op = .recv → s.rxst = .seek1 →
    s.agenda = List.replicate (garbage.length + (payload.length + 8)) Turn.rx ++ rest →
    s.rxQ = events (garbage ++ encode (.frame ident payload)) ++ q →
    ∃ t, runSteps (garbage.length + (payload.length + 8)) s = .next t ∧
      t.result = .ok ∧ t.done = true ∧ t.busy = false ∧ t.rxQ = q ∧ t.agenda = rest ∧
      t.rxLen.toNat = payload.length + 1 ∧
      ∀ j (h : j < (ident :: payload).length), t.rxByte j = (ident :: payload)[j]

/-- R178: flipping any one bit of the checksum byte of an encoded frame makes a RECV of it end with CHECKSUM. -/
def Obligations.ChecksumBitFlipIsCaught : Prop :=
  ∀ (s : State) (ident : Byte) (payload : List Byte) (k : Nat) (q : List RxEvent) (rest : List Turn),
    payload.length ≤ 65534 → k < 8 →
    s.inReset = false → s.op = .recv → s.rxst = .seek1 →
    s.agenda = List.replicate (payload.length + 8) Turn.rx ++ rest →
    s.rxQ = events ((encode (.frame ident payload)).modify (payload.length + 5) (· ^^^ (1#8 <<< k))) ++ q →
    ∃ t, runSteps (payload.length + 8) s = .next t ∧ t.result = .checksum ∧ t.done = true ∧ t.busy = false

/-! The encoder. -/

/-- An XMIT whose bytes are all accepted puts exactly the frame in TX_BUF on the wire, contiguously, and completes with OK
(41_encoder.md R172, R173, R175, R176; 60_exceptions.md R276). -/
def Obligations.XmitSendsItsFrame : Prop :=
  ∀ (s : State) (rest : List Turn),
    s.inReset = false → s.op = .xmit → s.sqst = .xmit → s.txPos = 0 → s.txXor = 0 → 1 ≤ s.txLen.toNat →
    s.agenda = List.replicate (s.txLen.toNat + 7) (Turn.tx .accept) ++ rest →
    runSteps (s.txLen.toNat + 7) s = .next { s with
      agenda := rest, sent := s.sent ++ txFrame s, busy := false, done := true, result := .ok, cause := .none,
      sqst := .idle, rxst := .idle, txPos := BitVec.ofNat 17 (s.txLen.toNat + 7), txXor := s.txXorTo s.txLen.toNat }

/-- R177: the bytes a completed XMIT puts on the wire, fed to a RECV, give OK, RX_LEN = TX_LEN and RX_BUF equal to TX_BUF over
identifier and payload. -/
def Obligations.XmitThenRecvRoundTrip : Prop :=
  ∀ (s t u : State) (rest restU : List Turn) (q : List RxEvent),
    s.inReset = false → s.op = .xmit → s.sqst = .xmit → s.txPos = 0 → s.txXor = 0 → 1 ≤ s.txLen.toNat →
    s.agenda = List.replicate (s.txLen.toNat + 7) (Turn.tx .accept) ++ rest →
    runSteps (s.txLen.toNat + 7) s = .next t →
    u.inReset = false → u.op = .recv → u.rxst = .seek1 →
    u.agenda = List.replicate (s.txLen.toNat + 7) Turn.rx ++ restU →
    u.rxQ = events (t.sent.drop s.sent.length) ++ q →
    ∃ w, runSteps (s.txLen.toNat + 7) u = .next w ∧
      w.result = .ok ∧ w.rxLen = s.txLen ∧ w.rxQ = q ∧
      ∀ j, j < s.txLen.toNat → w.rxByte j = s.txByte j

/-- An ERROR answer ends an XMIT and a SEND at once with TX_ERR, whatever attempts remain: no byte goes out, and TX_POS, TXXOR
and ATTEMPTS keep their values (41_encoder.md R174, R175; 43_sequencer.md R234). -/
def Obligations.TxErrorEndsOperation : Prop :=
  ∀ (s : State) (rest : List Turn), s.agenda = .tx .error :: rest →
    s.inReset = false → s.sqst = .xmit → s.op = .xmit ∨ s.op = .send →
    step s = .next { s with
      agenda := rest, sqst := .idle, rxst := .idle, busy := false, done := true, result := .txErr, cause := .none }

/-! The sequencer. -/

/-- FRAME_ACK: an ACK whose target is TX_BUF[0] completes the SEND with OK, and nothing else changes (43_sequencer.md R237,
60_exceptions.md R276). -/
def Obligations.MatchingAckCompletesSend : Prop :=
  ∀ s : State, 2 ≤ s.rxLen.toNat → s.rxByte 1 = s.txByte 0 →
    exec .frameAck s = .next { s with
      sqst := .idle, rxst := .idle, busy := false, done := true, result := .ok, cause := .none }

/-- FRAME_NACK: a NACK whose target is TX_BUF[0] fails the attempt with cause NACK: the next attempt starts if attempts remain,
else the SEND ends with EXCEEDED and that cause (43_sequencer.md R237, R240, R241). -/
def Obligations.MatchingNackFailsAttempt : Prop :=
  ∀ s : State, 2 ≤ s.rxLen.toNat → s.rxByte 1 = s.txByte 0 →
    exec .frameNack s = .next (afterFailure .nack s)

/-- FRAME_OTHER_ID: any other identifier is counted as irrelevant, whatever its payload: the wait goes on while the count is
within the bound, else the attempt fails with cause IRRELEVANT (43_sequencer.md R237, R238, R240). -/
def Obligations.OtherFrameIsCounted : Prop :=
  ∀ (ident : Byte) (s : State), ident ≠ 0x83#8 → ident ≠ 0x84#8 → s.irrCount.toNat < 511 →
    (s.irrCount.toNat + 1 ≤ s.irrBound.toNat →
      exec (.frameOtherId ident) s = .next { s with
        irrCount := s.irrCount + 1, sqst := .recv, rxst := .seek1, rxPos := 0, rxXor := 0 }) ∧
    (s.irrBound.toNat < s.irrCount.toNat + 1 →
      exec (.frameOtherId ident) s = .next (afterFailure .irrelevant { s with irrCount := s.irrCount + 1 }))

/-- An ACK or NACK with no target, or with a target that is not TX_BUF[0], does what a frame of any other kind does: it only
takes an irrelevant slot (43_sequencer.md R237, R242; 30_encoding.md R106). -/
def Obligations.StaleAcknowledgementOnlyCounts : Prop :=
  ∀ (ident : Byte) (s : State), ident ≠ 0x83#8 → ident ≠ 0x84#8 →
    ¬ (2 ≤ s.rxLen.toNat ∧ s.rxByte 1 = s.txByte 0) →
    exec .frameAck s = exec (.frameOtherId ident) s ∧ exec .frameNack s = exec (.frameOtherId ident) s

/-- EOS or RXERR ends a RECV at once with that result, and fails the attempt of a SEND wait with that cause; RX_LEN, RX_POS,
RX_BUF and RXXOR keep their values (42_decoder.md R199, R204; 43_sequencer.md R236). -/
def Obligations.StreamErrorEndsReceive : Prop :=
  ∀ (s : State) (e : RxEvent) (c : Code) (q : List RxEvent) (rest : List Turn),
    (e = .eos ∧ c = .eos) ∨ (e = .rxErr ∧ c = .rxErr) →
    s.agenda = .rx :: rest → s.rxQ = e :: q → s.inReset = false → s.rxst ≠ .idle →
    (s.op = .recv → step s = .next { s with
      agenda := rest, rxQ := q, sqst := .idle, rxst := .idle, busy := false, done := true, result := c,
      cause := .none }) ∧
    (s.op = .send → step s = .next (afterFailure c { s with agenda := rest, rxQ := q, sqst := .idle, rxst := .idle }))

/-- R245: a SEND with no acknowledgement, whose every wait ends in EOS or RXERR, whatever garbage, irrelevant frames and cut
frames the wait takes before, transmits its frame MAX_ATTEMPTS times and ends with EXCEEDED and the cause of the last wait. The
turns and the queue are the model's, log entry 2. -/
def Obligations.SilentDeviceExhaustsAttempts : Prop :=
  ∀ (s : State) (v : Word) (waits : List Wait) (last : Wait) (q : List RxEvent) (turns rest : List Turn),
    s.inReset = false → s.busy = false → 1 ≤ s.txLen.toNat → v.extractLsb' 0 4 = 0x3#4 →
    (∀ w ∈ waits ++ [last], w.unanswered s) → waits.length + 1 = s.maxAttempts.toNat →
    turns = wordWrite .cmd v :: ((waits ++ [last]).map fun w =>
      List.replicate (s.txLen.toNat + 7) (Turn.tx .accept) ++ List.replicate w.offered.length Turn.rx).flatten →
    s.agenda = turns ++ rest → s.rxQ = ((waits ++ [last]).map Wait.offered).flatten ++ q →
    ∃ t, runSteps turns.length s = .next t ∧
      t.result = .exceeded ∧ t.cause = (if last.ending = .eos then .eos else .rxErr) ∧ t.done = true ∧ t.busy = false ∧
      t.attempts = s.maxAttempts ∧ t.irrCount.toNat = last.frames.length ∧ t.rxQ = q ∧ t.agenda = rest ∧
      t.sent = s.sent ++ (List.replicate s.maxAttempts.toNat (txFrame s)).flatten

/-- In a SEND wait, exactly IRR_BOUND irrelevant frames followed by the matching ACK give OK with IRR_COUNT = IRR_BOUND; one
more irrelevant frame in the last attempt ends the SEND with EXCEEDED, cause IRRELEVANT and IRR_COUNT = IRR_BOUND + 1
(43_sequencer.md R237, R238, R246). -/
def Obligations.IrrelevantBoundIsExact : Prop :=
  ∀ (s : State) (frames : List (Byte × List Byte)) (final : Byte × List Byte) (q : List RxEvent) (rest : List Turn),
    s.inReset = false → s.op = .send → s.sqst = .recv → s.rxst = .seek1 → s.irrCount = 0 →
    (∀ f ∈ frames, f.2.length ≤ 65534 ∧ irrelevantTo s f) → frames.length = s.irrBound.toNat →
    final.2.length ≤ 65534 →
    s.agenda = List.replicate (frames.length + 1) Turn.rxFrame ++ rest →
    s.rxQ = events ((frames ++ [final]).map fun f => encode (.frame f.1 f.2)).flatten ++ q →
    ∃ t, runSteps (frames.length + 1) s = .next t ∧ t.rxQ = q ∧ t.agenda = rest ∧
      (final.1 = 0x83#8 → final.2.head? = some (s.txByte 0) →
        t.result = .ok ∧ t.cause = .none ∧ t.done = true ∧ t.busy = false ∧ t.irrCount.toNat = s.irrBound.toNat) ∧
      (irrelevantTo s final → s.attempts = s.maxAttempts →
        t.result = .exceeded ∧ t.cause = .irrelevant ∧ t.done = true ∧ t.busy = false ∧
          t.irrCount.toNat = s.irrBound.toNat + 1)

/-- A SEND answered by a matching NACK and then by a matching ACK completes with OK after two attempts, its frame on the wire
twice and no byte between (43_sequencer.md R230 to R240, R244). -/
def Obligations.NackThenAckTakesTwoAttempts : Prop :=
  ∀ (s : State) (v : Word) (p1 p2 : List Byte) (q : List RxEvent) (rest : List Turn),
    s.inReset = false → s.busy = false → 1 ≤ s.txLen.toNat → v.extractLsb' 0 4 = 0x3#4 → 2 ≤ s.maxAttempts.toNat →
    p1.length ≤ 65533 → p2.length ≤ 65533 →
    s.agenda = wordWrite .cmd v ::
      (List.replicate (s.txLen.toNat + 7) (Turn.tx .accept) ++ Turn.rxFrame ::
        (List.replicate (s.txLen.toNat + 7) (Turn.tx .accept) ++ Turn.rxFrame :: rest)) →
    s.rxQ = events (encode (.frame 0x84#8 (s.txByte 0 :: p1)) ++ encode (.frame 0x83#8 (s.txByte 0 :: p2))) ++ q →
    ∃ t, runSteps (1 + 2 * (s.txLen.toNat + 8)) s = .next t ∧
      t.result = .ok ∧ t.cause = .none ∧ t.done = true ∧ t.busy = false ∧ t.attempts = 2 ∧ t.rxQ = q ∧
      t.agenda = rest ∧ t.sent = s.sent ++ (txFrame s ++ txFrame s)

/-! Whole-machine rules. -/

/-- The state after reset satisfies the invariant (10_state.md R44, R47). -/
def Obligations.ResetStateSatisfiesInv : Prop := State.reset.Inv

/-- Every step from a state that satisfies the invariant leads to one that does: R44's clauses, the bounds of R34 to R37, the
results of R277 and R247, the running checksums of R172 and R197, the buffers' canonical form. -/
def Obligations.StepKeepsInv : Prop :=
  ∀ s t : State, s.Inv → step s = .next t → t.Inv

/-- From a state that satisfies the invariant every step answers a next state: no turn, event, answer or access stops the
machine (30_encoding.md R107, 60_exceptions.md R278; the fault for a byte outside RX_BUF is the model's, log entry 13). -/
def Obligations.StepNeverStops : Prop :=
  ∀ s : State, s.Inv → ∃ t, step s = .next t

/-- R44: its clauses hold in every state reachable from reset, whatever the agents do. -/
def Obligations.ReachableStatesKeepR44 : Prop :=
  ∀ (n : Nat) (turns : List Turn) (q : List RxEvent) (t : State),
    runSteps n { State.reset with agenda := turns, rxQ := q } = .next t →
    (t.busy = true ↔ t.sqst ≠ .idle) ∧ (t.rxst ≠ .idle ↔ t.sqst = .recv) ∧
    (t.busy = true → t.result = .none ∧ t.cause = .none) ∧
    (t.lcause ≠ .none → t.op = .send ∧ 1 ≤ t.attempts.toNat ∧ (t.busy = true → 2 ≤ t.attempts.toNat)) ∧
    (t.sqst = .xmit → 1 ≤ t.txLen.toNat)

/-- While an operation runs, no host access changes the frame being sent, its length, TX_INDEX or CONFIG, and none ends or
disturbs the operation (20_memory.md R86, 40_host_access.md R134, R137; 43_sequencer.md R233). -/
def Obligations.HostCannotDisturbOperation : Prop :=
  ∀ (s t : State) (a : Access) (rest : List Turn), s.agenda = .host a :: rest → s.busy = true → s.inReset = false →
    step s = .next t →
    t = { s with
      agenda := rest, done := t.done, cmdErr := t.cmdErr, rxIndex := t.rxIndex, resp := t.resp, draws := t.draws }

/-- Asserting reset puts every register at its reset value in one step, whatever runs, and the block is held in reset: no result is recorded, both buffers keep
every byte, and RXSRC's events and the bytes on the wire stay as they are (70_reset_and_hazards.md R300, R301; 10_state.md R47). -/
def Obligations.ResetRestoresRegisters : Prop :=
  ∀ (s : State) (rest : List Turn), s.agenda = .assertReset :: rest →
    ∃ t, step s = .next t ∧
      t.busy = false ∧ t.done = false ∧ t.cmdErr = false ∧ t.result = .none ∧ t.cause = .none ∧ t.op = .nop ∧
      t.maxAttempts.toNat = 3 ∧ t.irrBound.toNat = 5 ∧ t.ie = false ∧ t.txLen = 0 ∧ t.txIndex = 0 ∧ t.rxLen = 0 ∧
      t.rxIndex = 0 ∧ t.attempts = 0 ∧ t.irrCount = 0 ∧ t.rxPos = 0 ∧ t.txPos = 0 ∧ t.rxst = .idle ∧ t.sqst = .idle ∧
      t.rxXor = 0 ∧ t.txXor = 0 ∧ t.lcause = .none ∧
      (∀ j, t.txByte j = s.txByte j) ∧ (∀ j, t.rxByte j = s.rxByte j) ∧
      t.rxQ = s.rxQ ∧ t.sent = s.sent ∧ t.agenda = rest ∧
      t.rxReady = false ∧ t.txValid = false ∧ t.txLast = false ∧ t.irq = false ∧ t.inReset = true

/-- R283, R46 and R172: `irq` is IE and (DONE or CMD_ERR); `rx_ready`, `tx_valid` and `tx_last` follow the state machines;
`tx_data` is the byte at TX_POS of the frame's L + 7 bytes, for every position of a frame on offer; where the checksum is on
offer, TXXOR equals it, given that the running checksums are right (an invariant, StepKeepsInv). -/
def Obligations.PortOutputsFollowState : Prop :=
  ∀ s : State,
    (s.irq = true ↔ s.ie = true ∧ (s.done = true ∨ s.cmdErr = true)) ∧
    (s.rxReady = true ↔ s.rxst ≠ .idle) ∧ (s.txValid = true ↔ s.sqst = .xmit) ∧
    (s.txLast = true ↔ s.sqst = .xmit ∧ s.txPos.toNat = s.txLen.toNat + 6) ∧
    (1 ≤ s.txLen.toNat → (txFrame s).length = s.txLen.toNat + 7) ∧
    (s.sqst = .xmit → s.txPos.toNat < s.txLen.toNat + 7 → 1 ≤ s.txLen.toNat →
      (txFrame s)[s.txPos.toNat]? = some s.txData) ∧
    (s.ChecksumInv → s.sqst = .xmit → s.txPos.toNat = s.txLen.toNat + 4 → s.txData = s.txXor)

/-! Turns with no handshake, and the end of reset. -/

/-- A turn that finds no handshake passes and changes nothing but the agenda: RXSRC's turns while `rx_ready` = 0, whatever it
offers, or while it offers nothing; TXSNK's while `tx_valid` = 0, whatever it answers; both while the reset input is asserted,
whatever the state machines hold. With no turn at all nothing changes (20_memory.md R80, R82; 41_encoder.md R171;
60_exceptions.md R290; 70_reset_and_hazards.md R300, R311, R313). That such a turn passes as a step is the model's form, log
entry 12, and the agenda is the model's, log entry 2. -/
def Obligations.TurnWithoutHandshakeChangesNothing : Prop :=
  (∀ s : State, s.agenda = [] → step s = .next s) ∧
  (∀ (s : State) (turn : Turn) (rest : List Turn), s.agenda = turn :: rest →
    (turn = .rx ∨ turn = .rxFrame → s.rxReady = false ∨ s.inReset = true ∨ s.rxQ = [] →
      step s = .next { s with agenda := rest }) ∧
    (∀ ans, turn = .tx ans → s.txValid = false ∨ s.inReset = true → step s = .next { s with agenda := rest }))

/-- Releasing reset changes nothing but the level of the reset input; after a reset that is asserted and released the block is
idle, with no condition pending, and takes host accesses by their rules again (70_reset_and_hazards.md R300, R302). The reset
input as a level with two turns is the model's, log entry 23, and the agenda is, log entry 2. -/
def Obligations.ReleasingResetLeavesBlockIdle : Prop :=
  (∀ (s : State) (rest : List Turn), s.agenda = .releaseReset :: rest →
    step s = .next { s with agenda := rest, inReset := false }) ∧
  (∀ (s : State) (rest : List Turn), s.agenda = .assertReset :: .releaseReset :: rest →
    ∃ t, runSteps 2 s = .next t ∧ t.inReset = false ∧ t.sqst = .idle ∧ t.rxst = .idle ∧ t.busy = false ∧
      t.irq = false ∧ t.ie = false ∧ t.agenda = rest)
end

