-- ==== Sys2Proof/Laws/State.lean ====
section
/-! SUPPORT. One lemma per field for each update of the state, all true by definition, so that no proof unfolds an update. -/

namespace Sys2Proof.Machine

/-! ending an operation -/

@[simp] theorem complete_busy (r c : Code) (s : State) : (complete r c s).busy = false := rfl
@[simp] theorem complete_done (r c : Code) (s : State) : (complete r c s).done = true := rfl
@[simp] theorem complete_cmdErr (r c : Code) (s : State) : (complete r c s).cmdErr = s.cmdErr := rfl
@[simp] theorem complete_result (r c : Code) (s : State) : (complete r c s).result = r := rfl
@[simp] theorem complete_cause (r c : Code) (s : State) : (complete r c s).cause = c := rfl
@[simp] theorem complete_op (r c : Code) (s : State) : (complete r c s).op = s.op := rfl
@[simp] theorem complete_maxAttempts (r c : Code) (s : State) : (complete r c s).maxAttempts = s.maxAttempts := rfl
@[simp] theorem complete_irrBound (r c : Code) (s : State) : (complete r c s).irrBound = s.irrBound := rfl
@[simp] theorem complete_ie (r c : Code) (s : State) : (complete r c s).ie = s.ie := rfl
@[simp] theorem complete_txLen (r c : Code) (s : State) : (complete r c s).txLen = s.txLen := rfl
@[simp] theorem complete_txIndex (r c : Code) (s : State) : (complete r c s).txIndex = s.txIndex := rfl
@[simp] theorem complete_rxLen (r c : Code) (s : State) : (complete r c s).rxLen = s.rxLen := rfl
@[simp] theorem complete_rxIndex (r c : Code) (s : State) : (complete r c s).rxIndex = s.rxIndex := rfl
@[simp] theorem complete_attempts (r c : Code) (s : State) : (complete r c s).attempts = s.attempts := rfl
@[simp] theorem complete_irrCount (r c : Code) (s : State) : (complete r c s).irrCount = s.irrCount := rfl
@[simp] theorem complete_rxPos (r c : Code) (s : State) : (complete r c s).rxPos = s.rxPos := rfl
@[simp] theorem complete_txPos (r c : Code) (s : State) : (complete r c s).txPos = s.txPos := rfl
@[simp] theorem complete_rxst (r c : Code) (s : State) : (complete r c s).rxst = .idle := rfl
@[simp] theorem complete_sqst (r c : Code) (s : State) : (complete r c s).sqst = .idle := rfl
@[simp] theorem complete_rxXor (r c : Code) (s : State) : (complete r c s).rxXor = s.rxXor := rfl
@[simp] theorem complete_txXor (r c : Code) (s : State) : (complete r c s).txXor = s.txXor := rfl
@[simp] theorem complete_lcause (r c : Code) (s : State) : (complete r c s).lcause = s.lcause := rfl
@[simp] theorem complete_txBuf (r c : Code) (s : State) : (complete r c s).txBuf = s.txBuf := rfl
@[simp] theorem complete_rxBuf (r c : Code) (s : State) : (complete r c s).rxBuf = s.rxBuf := rfl
@[simp] theorem complete_inReset (r c : Code) (s : State) : (complete r c s).inReset = s.inReset := rfl
@[simp] theorem complete_txEpoch (r c : Code) (s : State) : (complete r c s).txEpoch = s.txEpoch := rfl
@[simp] theorem complete_draws (r c : Code) (s : State) : (complete r c s).draws = s.draws := rfl
@[simp] theorem complete_resp (r c : Code) (s : State) : (complete r c s).resp = s.resp := rfl
@[simp] theorem complete_agenda (r c : Code) (s : State) : (complete r c s).agenda = s.agenda := rfl
@[simp] theorem complete_rxQ (r c : Code) (s : State) : (complete r c s).rxQ = s.rxQ := rfl
@[simp] theorem complete_sent (r c : Code) (s : State) : (complete r c s).sent = s.sent := rfl

/-! clearing DONE -/

@[simp] theorem clearDone_busy (s : State) : (clearDone s).busy = s.busy := rfl
@[simp] theorem clearDone_done (s : State) : (clearDone s).done = false := rfl
@[simp] theorem clearDone_cmdErr (s : State) : (clearDone s).cmdErr = s.cmdErr := rfl
@[simp] theorem clearDone_result (s : State) : (clearDone s).result = s.result := rfl
@[simp] theorem clearDone_cause (s : State) : (clearDone s).cause = s.cause := rfl
@[simp] theorem clearDone_op (s : State) : (clearDone s).op = s.op := rfl
@[simp] theorem clearDone_maxAttempts (s : State) : (clearDone s).maxAttempts = s.maxAttempts := rfl
@[simp] theorem clearDone_irrBound (s : State) : (clearDone s).irrBound = s.irrBound := rfl
@[simp] theorem clearDone_ie (s : State) : (clearDone s).ie = s.ie := rfl
@[simp] theorem clearDone_txLen (s : State) : (clearDone s).txLen = s.txLen := rfl
@[simp] theorem clearDone_txIndex (s : State) : (clearDone s).txIndex = s.txIndex := rfl
@[simp] theorem clearDone_rxLen (s : State) : (clearDone s).rxLen = s.rxLen := rfl
@[simp] theorem clearDone_rxIndex (s : State) : (clearDone s).rxIndex = s.rxIndex := rfl
@[simp] theorem clearDone_attempts (s : State) : (clearDone s).attempts = s.attempts := rfl
@[simp] theorem clearDone_irrCount (s : State) : (clearDone s).irrCount = s.irrCount := rfl
@[simp] theorem clearDone_rxPos (s : State) : (clearDone s).rxPos = s.rxPos := rfl
@[simp] theorem clearDone_txPos (s : State) : (clearDone s).txPos = s.txPos := rfl
@[simp] theorem clearDone_rxst (s : State) : (clearDone s).rxst = s.rxst := rfl
@[simp] theorem clearDone_sqst (s : State) : (clearDone s).sqst = s.sqst := rfl
@[simp] theorem clearDone_rxXor (s : State) : (clearDone s).rxXor = s.rxXor := rfl
@[simp] theorem clearDone_txXor (s : State) : (clearDone s).txXor = s.txXor := rfl
@[simp] theorem clearDone_lcause (s : State) : (clearDone s).lcause = s.lcause := rfl
@[simp] theorem clearDone_txBuf (s : State) : (clearDone s).txBuf = s.txBuf := rfl
@[simp] theorem clearDone_rxBuf (s : State) : (clearDone s).rxBuf = s.rxBuf := rfl
@[simp] theorem clearDone_inReset (s : State) : (clearDone s).inReset = s.inReset := rfl
@[simp] theorem clearDone_txEpoch (s : State) : (clearDone s).txEpoch = s.txEpoch := rfl
@[simp] theorem clearDone_draws (s : State) : (clearDone s).draws = s.draws := rfl
@[simp] theorem clearDone_resp (s : State) : (clearDone s).resp = s.resp := rfl
@[simp] theorem clearDone_agenda (s : State) : (clearDone s).agenda = s.agenda := rfl
@[simp] theorem clearDone_rxQ (s : State) : (clearDone s).rxQ = s.rxQ := rfl
@[simp] theorem clearDone_sent (s : State) : (clearDone s).sent = s.sent := rfl

/-! start_transmit -/

@[simp] theorem startTransmit_busy (s : State) : (startTransmit s).busy = s.busy := rfl
@[simp] theorem startTransmit_done (s : State) : (startTransmit s).done = s.done := rfl
@[simp] theorem startTransmit_cmdErr (s : State) : (startTransmit s).cmdErr = s.cmdErr := rfl
@[simp] theorem startTransmit_result (s : State) : (startTransmit s).result = s.result := rfl
@[simp] theorem startTransmit_cause (s : State) : (startTransmit s).cause = s.cause := rfl
@[simp] theorem startTransmit_op (s : State) : (startTransmit s).op = s.op := rfl
@[simp] theorem startTransmit_maxAttempts (s : State) : (startTransmit s).maxAttempts = s.maxAttempts := rfl
@[simp] theorem startTransmit_irrBound (s : State) : (startTransmit s).irrBound = s.irrBound := rfl
@[simp] theorem startTransmit_ie (s : State) : (startTransmit s).ie = s.ie := rfl
@[simp] theorem startTransmit_txLen (s : State) : (startTransmit s).txLen = s.txLen := rfl
@[simp] theorem startTransmit_txIndex (s : State) : (startTransmit s).txIndex = s.txIndex := rfl
@[simp] theorem startTransmit_rxLen (s : State) : (startTransmit s).rxLen = s.rxLen := rfl
@[simp] theorem startTransmit_rxIndex (s : State) : (startTransmit s).rxIndex = s.rxIndex := rfl
@[simp] theorem startTransmit_attempts (s : State) : (startTransmit s).attempts = s.attempts := rfl
@[simp] theorem startTransmit_irrCount (s : State) : (startTransmit s).irrCount = s.irrCount := rfl
@[simp] theorem startTransmit_rxPos (s : State) : (startTransmit s).rxPos = s.rxPos := rfl
@[simp] theorem startTransmit_txPos (s : State) : (startTransmit s).txPos = 0 := rfl
@[simp] theorem startTransmit_rxst (s : State) : (startTransmit s).rxst = s.rxst := rfl
@[simp] theorem startTransmit_sqst (s : State) : (startTransmit s).sqst = .xmit := rfl
@[simp] theorem startTransmit_rxXor (s : State) : (startTransmit s).rxXor = s.rxXor := rfl
@[simp] theorem startTransmit_txXor (s : State) : (startTransmit s).txXor = 0 := rfl
@[simp] theorem startTransmit_lcause (s : State) : (startTransmit s).lcause = s.lcause := rfl
@[simp] theorem startTransmit_txBuf (s : State) : (startTransmit s).txBuf = s.txBuf := rfl
@[simp] theorem startTransmit_rxBuf (s : State) : (startTransmit s).rxBuf = s.rxBuf := rfl
@[simp] theorem startTransmit_inReset (s : State) : (startTransmit s).inReset = s.inReset := rfl
@[simp] theorem startTransmit_txEpoch (s : State) : (startTransmit s).txEpoch = s.txEpoch := rfl
@[simp] theorem startTransmit_draws (s : State) : (startTransmit s).draws = s.draws := rfl
@[simp] theorem startTransmit_resp (s : State) : (startTransmit s).resp = s.resp := rfl
@[simp] theorem startTransmit_agenda (s : State) : (startTransmit s).agenda = s.agenda := rfl
@[simp] theorem startTransmit_rxQ (s : State) : (startTransmit s).rxQ = s.rxQ := rfl
@[simp] theorem startTransmit_sent (s : State) : (startTransmit s).sent = s.sent := rfl

/-! start_receive -/

@[simp] theorem startReceive_busy (s : State) : (startReceive s).busy = s.busy := rfl
@[simp] theorem startReceive_done (s : State) : (startReceive s).done = s.done := rfl
@[simp] theorem startReceive_cmdErr (s : State) : (startReceive s).cmdErr = s.cmdErr := rfl
@[simp] theorem startReceive_result (s : State) : (startReceive s).result = s.result := rfl
@[simp] theorem startReceive_cause (s : State) : (startReceive s).cause = s.cause := rfl
@[simp] theorem startReceive_op (s : State) : (startReceive s).op = s.op := rfl
@[simp] theorem startReceive_maxAttempts (s : State) : (startReceive s).maxAttempts = s.maxAttempts := rfl
@[simp] theorem startReceive_irrBound (s : State) : (startReceive s).irrBound = s.irrBound := rfl
@[simp] theorem startReceive_ie (s : State) : (startReceive s).ie = s.ie := rfl
@[simp] theorem startReceive_txLen (s : State) : (startReceive s).txLen = s.txLen := rfl
@[simp] theorem startReceive_txIndex (s : State) : (startReceive s).txIndex = s.txIndex := rfl
@[simp] theorem startReceive_rxLen (s : State) : (startReceive s).rxLen = s.rxLen := rfl
@[simp] theorem startReceive_rxIndex (s : State) : (startReceive s).rxIndex = s.rxIndex := rfl
@[simp] theorem startReceive_attempts (s : State) : (startReceive s).attempts = s.attempts := rfl
@[simp] theorem startReceive_irrCount (s : State) : (startReceive s).irrCount = s.irrCount := rfl
@[simp] theorem startReceive_rxPos (s : State) : (startReceive s).rxPos = 0 := rfl
@[simp] theorem startReceive_txPos (s : State) : (startReceive s).txPos = s.txPos := rfl
@[simp] theorem startReceive_rxst (s : State) : (startReceive s).rxst = .seek1 := rfl
@[simp] theorem startReceive_sqst (s : State) : (startReceive s).sqst = .recv := rfl
@[simp] theorem startReceive_rxXor (s : State) : (startReceive s).rxXor = 0 := rfl
@[simp] theorem startReceive_txXor (s : State) : (startReceive s).txXor = s.txXor := rfl
@[simp] theorem startReceive_lcause (s : State) : (startReceive s).lcause = s.lcause := rfl
@[simp] theorem startReceive_txBuf (s : State) : (startReceive s).txBuf = s.txBuf := rfl
@[simp] theorem startReceive_rxBuf (s : State) : (startReceive s).rxBuf = s.rxBuf := rfl
@[simp] theorem startReceive_inReset (s : State) : (startReceive s).inReset = s.inReset := rfl
@[simp] theorem startReceive_txEpoch (s : State) : (startReceive s).txEpoch = s.txEpoch := rfl
@[simp] theorem startReceive_draws (s : State) : (startReceive s).draws = s.draws := rfl
@[simp] theorem startReceive_resp (s : State) : (startReceive s).resp = s.resp := rfl
@[simp] theorem startReceive_agenda (s : State) : (startReceive s).agenda = s.agenda := rfl
@[simp] theorem startReceive_rxQ (s : State) : (startReceive s).rxQ = s.rxQ := rfl
@[simp] theorem startReceive_sent (s : State) : (startReceive s).sent = s.sent := rfl

/-! start_attempt -/

@[simp] theorem startAttempt_busy (s : State) : (startAttempt s).busy = s.busy := rfl
@[simp] theorem startAttempt_done (s : State) : (startAttempt s).done = s.done := rfl
@[simp] theorem startAttempt_cmdErr (s : State) : (startAttempt s).cmdErr = s.cmdErr := rfl
@[simp] theorem startAttempt_result (s : State) : (startAttempt s).result = s.result := rfl
@[simp] theorem startAttempt_cause (s : State) : (startAttempt s).cause = s.cause := rfl
@[simp] theorem startAttempt_op (s : State) : (startAttempt s).op = s.op := rfl
@[simp] theorem startAttempt_maxAttempts (s : State) : (startAttempt s).maxAttempts = s.maxAttempts := rfl
@[simp] theorem startAttempt_irrBound (s : State) : (startAttempt s).irrBound = s.irrBound := rfl
@[simp] theorem startAttempt_ie (s : State) : (startAttempt s).ie = s.ie := rfl
@[simp] theorem startAttempt_txLen (s : State) : (startAttempt s).txLen = s.txLen := rfl
@[simp] theorem startAttempt_txIndex (s : State) : (startAttempt s).txIndex = s.txIndex := rfl
@[simp] theorem startAttempt_rxLen (s : State) : (startAttempt s).rxLen = s.rxLen := rfl
@[simp] theorem startAttempt_rxIndex (s : State) : (startAttempt s).rxIndex = s.rxIndex := rfl
@[simp] theorem startAttempt_attempts (s : State) : (startAttempt s).attempts = s.attempts + 1 := rfl
@[simp] theorem startAttempt_irrCount (s : State) : (startAttempt s).irrCount = 0 := rfl
@[simp] theorem startAttempt_rxPos (s : State) : (startAttempt s).rxPos = s.rxPos := rfl
@[simp] theorem startAttempt_txPos (s : State) : (startAttempt s).txPos = 0 := rfl
@[simp] theorem startAttempt_rxst (s : State) : (startAttempt s).rxst = s.rxst := rfl
@[simp] theorem startAttempt_sqst (s : State) : (startAttempt s).sqst = .xmit := rfl
@[simp] theorem startAttempt_rxXor (s : State) : (startAttempt s).rxXor = s.rxXor := rfl
@[simp] theorem startAttempt_txXor (s : State) : (startAttempt s).txXor = 0 := rfl
@[simp] theorem startAttempt_lcause (s : State) : (startAttempt s).lcause = s.lcause := rfl
@[simp] theorem startAttempt_txBuf (s : State) : (startAttempt s).txBuf = s.txBuf := rfl
@[simp] theorem startAttempt_rxBuf (s : State) : (startAttempt s).rxBuf = s.rxBuf := rfl
@[simp] theorem startAttempt_inReset (s : State) : (startAttempt s).inReset = s.inReset := rfl
@[simp] theorem startAttempt_txEpoch (s : State) : (startAttempt s).txEpoch = s.txEpoch := rfl
@[simp] theorem startAttempt_draws (s : State) : (startAttempt s).draws = s.draws := rfl
@[simp] theorem startAttempt_resp (s : State) : (startAttempt s).resp = s.resp := rfl
@[simp] theorem startAttempt_agenda (s : State) : (startAttempt s).agenda = s.agenda := rfl
@[simp] theorem startAttempt_rxQ (s : State) : (startAttempt s).rxQ = s.rxQ := rfl
@[simp] theorem startAttempt_sent (s : State) : (startAttempt s).sent = s.sent := rfl

/-! an accepted SEND's counts -/

@[simp] theorem clearCounts_busy (s : State) : (clearCounts s).busy = s.busy := rfl
@[simp] theorem clearCounts_done (s : State) : (clearCounts s).done = s.done := rfl
@[simp] theorem clearCounts_cmdErr (s : State) : (clearCounts s).cmdErr = s.cmdErr := rfl
@[simp] theorem clearCounts_result (s : State) : (clearCounts s).result = s.result := rfl
@[simp] theorem clearCounts_cause (s : State) : (clearCounts s).cause = s.cause := rfl
@[simp] theorem clearCounts_op (s : State) : (clearCounts s).op = s.op := rfl
@[simp] theorem clearCounts_maxAttempts (s : State) : (clearCounts s).maxAttempts = s.maxAttempts := rfl
@[simp] theorem clearCounts_irrBound (s : State) : (clearCounts s).irrBound = s.irrBound := rfl
@[simp] theorem clearCounts_ie (s : State) : (clearCounts s).ie = s.ie := rfl
@[simp] theorem clearCounts_txLen (s : State) : (clearCounts s).txLen = s.txLen := rfl
@[simp] theorem clearCounts_txIndex (s : State) : (clearCounts s).txIndex = s.txIndex := rfl
@[simp] theorem clearCounts_rxLen (s : State) : (clearCounts s).rxLen = s.rxLen := rfl
@[simp] theorem clearCounts_rxIndex (s : State) : (clearCounts s).rxIndex = s.rxIndex := rfl
@[simp] theorem clearCounts_attempts (s : State) : (clearCounts s).attempts = 0 := rfl
@[simp] theorem clearCounts_irrCount (s : State) : (clearCounts s).irrCount = 0 := rfl
@[simp] theorem clearCounts_rxPos (s : State) : (clearCounts s).rxPos = s.rxPos := rfl
@[simp] theorem clearCounts_txPos (s : State) : (clearCounts s).txPos = s.txPos := rfl
@[simp] theorem clearCounts_rxst (s : State) : (clearCounts s).rxst = s.rxst := rfl
@[simp] theorem clearCounts_sqst (s : State) : (clearCounts s).sqst = s.sqst := rfl
@[simp] theorem clearCounts_rxXor (s : State) : (clearCounts s).rxXor = s.rxXor := rfl
@[simp] theorem clearCounts_txXor (s : State) : (clearCounts s).txXor = s.txXor := rfl
@[simp] theorem clearCounts_lcause (s : State) : (clearCounts s).lcause = s.lcause := rfl
@[simp] theorem clearCounts_txBuf (s : State) : (clearCounts s).txBuf = s.txBuf := rfl
@[simp] theorem clearCounts_rxBuf (s : State) : (clearCounts s).rxBuf = s.rxBuf := rfl
@[simp] theorem clearCounts_inReset (s : State) : (clearCounts s).inReset = s.inReset := rfl
@[simp] theorem clearCounts_txEpoch (s : State) : (clearCounts s).txEpoch = s.txEpoch := rfl
@[simp] theorem clearCounts_draws (s : State) : (clearCounts s).draws = s.draws := rfl
@[simp] theorem clearCounts_resp (s : State) : (clearCounts s).resp = s.resp := rfl
@[simp] theorem clearCounts_agenda (s : State) : (clearCounts s).agenda = s.agenda := rfl
@[simp] theorem clearCounts_rxQ (s : State) : (clearCounts s).rxQ = s.rxQ := rfl
@[simp] theorem clearCounts_sent (s : State) : (clearCounts s).sent = s.sent := rfl

/-! a failed attempt's cause -/

@[simp] theorem recordCause_busy (c : Code) (s : State) : (recordCause c s).busy = s.busy := rfl
@[simp] theorem recordCause_done (c : Code) (s : State) : (recordCause c s).done = s.done := rfl
@[simp] theorem recordCause_cmdErr (c : Code) (s : State) : (recordCause c s).cmdErr = s.cmdErr := rfl
@[simp] theorem recordCause_result (c : Code) (s : State) : (recordCause c s).result = s.result := rfl
@[simp] theorem recordCause_cause (c : Code) (s : State) : (recordCause c s).cause = s.cause := rfl
@[simp] theorem recordCause_op (c : Code) (s : State) : (recordCause c s).op = s.op := rfl
@[simp] theorem recordCause_maxAttempts (c : Code) (s : State) : (recordCause c s).maxAttempts = s.maxAttempts := rfl
@[simp] theorem recordCause_irrBound (c : Code) (s : State) : (recordCause c s).irrBound = s.irrBound := rfl
@[simp] theorem recordCause_ie (c : Code) (s : State) : (recordCause c s).ie = s.ie := rfl
@[simp] theorem recordCause_txLen (c : Code) (s : State) : (recordCause c s).txLen = s.txLen := rfl
@[simp] theorem recordCause_txIndex (c : Code) (s : State) : (recordCause c s).txIndex = s.txIndex := rfl
@[simp] theorem recordCause_rxLen (c : Code) (s : State) : (recordCause c s).rxLen = s.rxLen := rfl
@[simp] theorem recordCause_rxIndex (c : Code) (s : State) : (recordCause c s).rxIndex = s.rxIndex := rfl
@[simp] theorem recordCause_attempts (c : Code) (s : State) : (recordCause c s).attempts = s.attempts := rfl
@[simp] theorem recordCause_irrCount (c : Code) (s : State) : (recordCause c s).irrCount = s.irrCount := rfl
@[simp] theorem recordCause_rxPos (c : Code) (s : State) : (recordCause c s).rxPos = s.rxPos := rfl
@[simp] theorem recordCause_txPos (c : Code) (s : State) : (recordCause c s).txPos = s.txPos := rfl
@[simp] theorem recordCause_rxst (c : Code) (s : State) : (recordCause c s).rxst = s.rxst := rfl
@[simp] theorem recordCause_sqst (c : Code) (s : State) : (recordCause c s).sqst = s.sqst := rfl
@[simp] theorem recordCause_rxXor (c : Code) (s : State) : (recordCause c s).rxXor = s.rxXor := rfl
@[simp] theorem recordCause_txXor (c : Code) (s : State) : (recordCause c s).txXor = s.txXor := rfl
@[simp] theorem recordCause_lcause (c : Code) (s : State) : (recordCause c s).lcause = c := rfl
@[simp] theorem recordCause_txBuf (c : Code) (s : State) : (recordCause c s).txBuf = s.txBuf := rfl
@[simp] theorem recordCause_rxBuf (c : Code) (s : State) : (recordCause c s).rxBuf = s.rxBuf := rfl
@[simp] theorem recordCause_inReset (c : Code) (s : State) : (recordCause c s).inReset = s.inReset := rfl
@[simp] theorem recordCause_txEpoch (c : Code) (s : State) : (recordCause c s).txEpoch = s.txEpoch := rfl
@[simp] theorem recordCause_draws (c : Code) (s : State) : (recordCause c s).draws = s.draws := rfl
@[simp] theorem recordCause_resp (c : Code) (s : State) : (recordCause c s).resp = s.resp := rfl
@[simp] theorem recordCause_agenda (c : Code) (s : State) : (recordCause c s).agenda = s.agenda := rfl
@[simp] theorem recordCause_rxQ (c : Code) (s : State) : (recordCause c s).rxQ = s.rxQ := rfl
@[simp] theorem recordCause_sent (c : Code) (s : State) : (recordCause c s).sent = s.sent := rfl

/-! an irrelevant frame -/

@[simp] theorem countIrrelevant_busy (s : State) : (countIrrelevant s).busy = s.busy := rfl
@[simp] theorem countIrrelevant_done (s : State) : (countIrrelevant s).done = s.done := rfl
@[simp] theorem countIrrelevant_cmdErr (s : State) : (countIrrelevant s).cmdErr = s.cmdErr := rfl
@[simp] theorem countIrrelevant_result (s : State) : (countIrrelevant s).result = s.result := rfl
@[simp] theorem countIrrelevant_cause (s : State) : (countIrrelevant s).cause = s.cause := rfl
@[simp] theorem countIrrelevant_op (s : State) : (countIrrelevant s).op = s.op := rfl
@[simp] theorem countIrrelevant_maxAttempts (s : State) : (countIrrelevant s).maxAttempts = s.maxAttempts := rfl
@[simp] theorem countIrrelevant_irrBound (s : State) : (countIrrelevant s).irrBound = s.irrBound := rfl
@[simp] theorem countIrrelevant_ie (s : State) : (countIrrelevant s).ie = s.ie := rfl
@[simp] theorem countIrrelevant_txLen (s : State) : (countIrrelevant s).txLen = s.txLen := rfl
@[simp] theorem countIrrelevant_txIndex (s : State) : (countIrrelevant s).txIndex = s.txIndex := rfl
@[simp] theorem countIrrelevant_rxLen (s : State) : (countIrrelevant s).rxLen = s.rxLen := rfl
@[simp] theorem countIrrelevant_rxIndex (s : State) : (countIrrelevant s).rxIndex = s.rxIndex := rfl
@[simp] theorem countIrrelevant_attempts (s : State) : (countIrrelevant s).attempts = s.attempts := rfl
@[simp] theorem countIrrelevant_irrCount (s : State) : (countIrrelevant s).irrCount = s.irrCount + 1 := rfl
@[simp] theorem countIrrelevant_rxPos (s : State) : (countIrrelevant s).rxPos = s.rxPos := rfl
@[simp] theorem countIrrelevant_txPos (s : State) : (countIrrelevant s).txPos = s.txPos := rfl
@[simp] theorem countIrrelevant_rxst (s : State) : (countIrrelevant s).rxst = s.rxst := rfl
@[simp] theorem countIrrelevant_sqst (s : State) : (countIrrelevant s).sqst = s.sqst := rfl
@[simp] theorem countIrrelevant_rxXor (s : State) : (countIrrelevant s).rxXor = s.rxXor := rfl
@[simp] theorem countIrrelevant_txXor (s : State) : (countIrrelevant s).txXor = s.txXor := rfl
@[simp] theorem countIrrelevant_lcause (s : State) : (countIrrelevant s).lcause = s.lcause := rfl
@[simp] theorem countIrrelevant_txBuf (s : State) : (countIrrelevant s).txBuf = s.txBuf := rfl
@[simp] theorem countIrrelevant_rxBuf (s : State) : (countIrrelevant s).rxBuf = s.rxBuf := rfl
@[simp] theorem countIrrelevant_inReset (s : State) : (countIrrelevant s).inReset = s.inReset := rfl
@[simp] theorem countIrrelevant_txEpoch (s : State) : (countIrrelevant s).txEpoch = s.txEpoch := rfl
@[simp] theorem countIrrelevant_draws (s : State) : (countIrrelevant s).draws = s.draws := rfl
@[simp] theorem countIrrelevant_resp (s : State) : (countIrrelevant s).resp = s.resp := rfl
@[simp] theorem countIrrelevant_agenda (s : State) : (countIrrelevant s).agenda = s.agenda := rfl
@[simp] theorem countIrrelevant_rxQ (s : State) : (countIrrelevant s).rxQ = s.rxQ := rfl
@[simp] theorem countIrrelevant_sent (s : State) : (countIrrelevant s).sent = s.sent := rfl

/-! both state machines at rest -/

@[simp] theorem stopPorts_busy (s : State) : (stopPorts s).busy = s.busy := rfl
@[simp] theorem stopPorts_done (s : State) : (stopPorts s).done = s.done := rfl
@[simp] theorem stopPorts_cmdErr (s : State) : (stopPorts s).cmdErr = s.cmdErr := rfl
@[simp] theorem stopPorts_result (s : State) : (stopPorts s).result = s.result := rfl
@[simp] theorem stopPorts_cause (s : State) : (stopPorts s).cause = s.cause := rfl
@[simp] theorem stopPorts_op (s : State) : (stopPorts s).op = s.op := rfl
@[simp] theorem stopPorts_maxAttempts (s : State) : (stopPorts s).maxAttempts = s.maxAttempts := rfl
@[simp] theorem stopPorts_irrBound (s : State) : (stopPorts s).irrBound = s.irrBound := rfl
@[simp] theorem stopPorts_ie (s : State) : (stopPorts s).ie = s.ie := rfl
@[simp] theorem stopPorts_txLen (s : State) : (stopPorts s).txLen = s.txLen := rfl
@[simp] theorem stopPorts_txIndex (s : State) : (stopPorts s).txIndex = s.txIndex := rfl
@[simp] theorem stopPorts_rxLen (s : State) : (stopPorts s).rxLen = s.rxLen := rfl
@[simp] theorem stopPorts_rxIndex (s : State) : (stopPorts s).rxIndex = s.rxIndex := rfl
@[simp] theorem stopPorts_attempts (s : State) : (stopPorts s).attempts = s.attempts := rfl
@[simp] theorem stopPorts_irrCount (s : State) : (stopPorts s).irrCount = s.irrCount := rfl
@[simp] theorem stopPorts_rxPos (s : State) : (stopPorts s).rxPos = s.rxPos := rfl
@[simp] theorem stopPorts_txPos (s : State) : (stopPorts s).txPos = s.txPos := rfl
@[simp] theorem stopPorts_rxst (s : State) : (stopPorts s).rxst = .idle := rfl
@[simp] theorem stopPorts_sqst (s : State) : (stopPorts s).sqst = .idle := rfl
@[simp] theorem stopPorts_rxXor (s : State) : (stopPorts s).rxXor = s.rxXor := rfl
@[simp] theorem stopPorts_txXor (s : State) : (stopPorts s).txXor = s.txXor := rfl
@[simp] theorem stopPorts_lcause (s : State) : (stopPorts s).lcause = s.lcause := rfl
@[simp] theorem stopPorts_txBuf (s : State) : (stopPorts s).txBuf = s.txBuf := rfl
@[simp] theorem stopPorts_rxBuf (s : State) : (stopPorts s).rxBuf = s.rxBuf := rfl
@[simp] theorem stopPorts_inReset (s : State) : (stopPorts s).inReset = s.inReset := rfl
@[simp] theorem stopPorts_txEpoch (s : State) : (stopPorts s).txEpoch = s.txEpoch := rfl
@[simp] theorem stopPorts_draws (s : State) : (stopPorts s).draws = s.draws := rfl
@[simp] theorem stopPorts_resp (s : State) : (stopPorts s).resp = s.resp := rfl
@[simp] theorem stopPorts_agenda (s : State) : (stopPorts s).agenda = s.agenda := rfl
@[simp] theorem stopPorts_rxQ (s : State) : (stopPorts s).rxQ = s.rxQ := rfl
@[simp] theorem stopPorts_sent (s : State) : (stopPorts s).sent = s.sent := rfl

/-! the encoder at rest -/

@[simp] theorem stopEncoder_busy (s : State) : (stopEncoder s).busy = s.busy := rfl
@[simp] theorem stopEncoder_done (s : State) : (stopEncoder s).done = s.done := rfl
@[simp] theorem stopEncoder_cmdErr (s : State) : (stopEncoder s).cmdErr = s.cmdErr := rfl
@[simp] theorem stopEncoder_result (s : State) : (stopEncoder s).result = s.result := rfl
@[simp] theorem stopEncoder_cause (s : State) : (stopEncoder s).cause = s.cause := rfl
@[simp] theorem stopEncoder_op (s : State) : (stopEncoder s).op = s.op := rfl
@[simp] theorem stopEncoder_maxAttempts (s : State) : (stopEncoder s).maxAttempts = s.maxAttempts := rfl
@[simp] theorem stopEncoder_irrBound (s : State) : (stopEncoder s).irrBound = s.irrBound := rfl
@[simp] theorem stopEncoder_ie (s : State) : (stopEncoder s).ie = s.ie := rfl
@[simp] theorem stopEncoder_txLen (s : State) : (stopEncoder s).txLen = s.txLen := rfl
@[simp] theorem stopEncoder_txIndex (s : State) : (stopEncoder s).txIndex = s.txIndex := rfl
@[simp] theorem stopEncoder_rxLen (s : State) : (stopEncoder s).rxLen = s.rxLen := rfl
@[simp] theorem stopEncoder_rxIndex (s : State) : (stopEncoder s).rxIndex = s.rxIndex := rfl
@[simp] theorem stopEncoder_attempts (s : State) : (stopEncoder s).attempts = s.attempts := rfl
@[simp] theorem stopEncoder_irrCount (s : State) : (stopEncoder s).irrCount = s.irrCount := rfl
@[simp] theorem stopEncoder_rxPos (s : State) : (stopEncoder s).rxPos = s.rxPos := rfl
@[simp] theorem stopEncoder_txPos (s : State) : (stopEncoder s).txPos = s.txPos := rfl
@[simp] theorem stopEncoder_rxst (s : State) : (stopEncoder s).rxst = s.rxst := rfl
@[simp] theorem stopEncoder_sqst (s : State) : (stopEncoder s).sqst = .idle := rfl
@[simp] theorem stopEncoder_rxXor (s : State) : (stopEncoder s).rxXor = s.rxXor := rfl
@[simp] theorem stopEncoder_txXor (s : State) : (stopEncoder s).txXor = s.txXor := rfl
@[simp] theorem stopEncoder_lcause (s : State) : (stopEncoder s).lcause = s.lcause := rfl
@[simp] theorem stopEncoder_txBuf (s : State) : (stopEncoder s).txBuf = s.txBuf := rfl
@[simp] theorem stopEncoder_rxBuf (s : State) : (stopEncoder s).rxBuf = s.rxBuf := rfl
@[simp] theorem stopEncoder_inReset (s : State) : (stopEncoder s).inReset = s.inReset := rfl
@[simp] theorem stopEncoder_txEpoch (s : State) : (stopEncoder s).txEpoch = s.txEpoch := rfl
@[simp] theorem stopEncoder_draws (s : State) : (stopEncoder s).draws = s.draws := rfl
@[simp] theorem stopEncoder_resp (s : State) : (stopEncoder s).resp = s.resp := rfl
@[simp] theorem stopEncoder_agenda (s : State) : (stopEncoder s).agenda = s.agenda := rfl
@[simp] theorem stopEncoder_rxQ (s : State) : (stopEncoder s).rxQ = s.rxQ := rfl
@[simp] theorem stopEncoder_sent (s : State) : (stopEncoder s).sent = s.sent := rfl

/-! a stored body byte -/

@[simp] theorem storeBodyByte_busy (b : Byte) (s : State) : (storeBodyByte b s).busy = s.busy := rfl
@[simp] theorem storeBodyByte_done (b : Byte) (s : State) : (storeBodyByte b s).done = s.done := rfl
@[simp] theorem storeBodyByte_cmdErr (b : Byte) (s : State) : (storeBodyByte b s).cmdErr = s.cmdErr := rfl
@[simp] theorem storeBodyByte_result (b : Byte) (s : State) : (storeBodyByte b s).result = s.result := rfl
@[simp] theorem storeBodyByte_cause (b : Byte) (s : State) : (storeBodyByte b s).cause = s.cause := rfl
@[simp] theorem storeBodyByte_op (b : Byte) (s : State) : (storeBodyByte b s).op = s.op := rfl
@[simp] theorem storeBodyByte_maxAttempts (b : Byte) (s : State) : (storeBodyByte b s).maxAttempts = s.maxAttempts := rfl
@[simp] theorem storeBodyByte_irrBound (b : Byte) (s : State) : (storeBodyByte b s).irrBound = s.irrBound := rfl
@[simp] theorem storeBodyByte_ie (b : Byte) (s : State) : (storeBodyByte b s).ie = s.ie := rfl
@[simp] theorem storeBodyByte_txLen (b : Byte) (s : State) : (storeBodyByte b s).txLen = s.txLen := rfl
@[simp] theorem storeBodyByte_txIndex (b : Byte) (s : State) : (storeBodyByte b s).txIndex = s.txIndex := rfl
@[simp] theorem storeBodyByte_rxLen (b : Byte) (s : State) : (storeBodyByte b s).rxLen = s.rxLen := rfl
@[simp] theorem storeBodyByte_rxIndex (b : Byte) (s : State) : (storeBodyByte b s).rxIndex = s.rxIndex := rfl
@[simp] theorem storeBodyByte_attempts (b : Byte) (s : State) : (storeBodyByte b s).attempts = s.attempts := rfl
@[simp] theorem storeBodyByte_irrCount (b : Byte) (s : State) : (storeBodyByte b s).irrCount = s.irrCount := rfl
@[simp] theorem storeBodyByte_rxPos (b : Byte) (s : State) : (storeBodyByte b s).rxPos = s.rxPos + 1 := rfl
@[simp] theorem storeBodyByte_txPos (b : Byte) (s : State) : (storeBodyByte b s).txPos = s.txPos := rfl
@[simp] theorem storeBodyByte_rxst (b : Byte) (s : State) : (storeBodyByte b s).rxst = s.rxst := rfl
@[simp] theorem storeBodyByte_sqst (b : Byte) (s : State) : (storeBodyByte b s).sqst = s.sqst := rfl
@[simp] theorem storeBodyByte_rxXor (b : Byte) (s : State) :
    (storeBodyByte b s).rxXor = if s.rxPos.toNat < s.rxLen.toNat then s.rxXor ^^^ b else s.rxXor := rfl
@[simp] theorem storeBodyByte_txXor (b : Byte) (s : State) : (storeBodyByte b s).txXor = s.txXor := rfl
@[simp] theorem storeBodyByte_lcause (b : Byte) (s : State) : (storeBodyByte b s).lcause = s.lcause := rfl
@[simp] theorem storeBodyByte_txBuf (b : Byte) (s : State) : (storeBodyByte b s).txBuf = s.txBuf := rfl
@[simp] theorem storeBodyByte_rxBuf (b : Byte) (s : State) : (storeBodyByte b s).rxBuf = memWrite s.rxBuf s.rxPos.toNat b := rfl
@[simp] theorem storeBodyByte_inReset (b : Byte) (s : State) : (storeBodyByte b s).inReset = s.inReset := rfl
@[simp] theorem storeBodyByte_txEpoch (b : Byte) (s : State) : (storeBodyByte b s).txEpoch = s.txEpoch := rfl
@[simp] theorem storeBodyByte_draws (b : Byte) (s : State) : (storeBodyByte b s).draws = s.draws := rfl
@[simp] theorem storeBodyByte_resp (b : Byte) (s : State) : (storeBodyByte b s).resp = s.resp := rfl
@[simp] theorem storeBodyByte_agenda (b : Byte) (s : State) : (storeBodyByte b s).agenda = s.agenda := rfl
@[simp] theorem storeBodyByte_rxQ (b : Byte) (s : State) : (storeBodyByte b s).rxQ = s.rxQ := rfl
@[simp] theorem storeBodyByte_sent (b : Byte) (s : State) : (storeBodyByte b s).sent = s.sent := rfl

/-! an accepted byte -/

@[simp] theorem advanceTx_busy (s : State) : (advanceTx s).busy = s.busy := rfl
@[simp] theorem advanceTx_done (s : State) : (advanceTx s).done = s.done := rfl
@[simp] theorem advanceTx_cmdErr (s : State) : (advanceTx s).cmdErr = s.cmdErr := rfl
@[simp] theorem advanceTx_result (s : State) : (advanceTx s).result = s.result := rfl
@[simp] theorem advanceTx_cause (s : State) : (advanceTx s).cause = s.cause := rfl
@[simp] theorem advanceTx_op (s : State) : (advanceTx s).op = s.op := rfl
@[simp] theorem advanceTx_maxAttempts (s : State) : (advanceTx s).maxAttempts = s.maxAttempts := rfl
@[simp] theorem advanceTx_irrBound (s : State) : (advanceTx s).irrBound = s.irrBound := rfl
@[simp] theorem advanceTx_ie (s : State) : (advanceTx s).ie = s.ie := rfl
@[simp] theorem advanceTx_txLen (s : State) : (advanceTx s).txLen = s.txLen := rfl
@[simp] theorem advanceTx_txIndex (s : State) : (advanceTx s).txIndex = s.txIndex := rfl
@[simp] theorem advanceTx_rxLen (s : State) : (advanceTx s).rxLen = s.rxLen := rfl
@[simp] theorem advanceTx_rxIndex (s : State) : (advanceTx s).rxIndex = s.rxIndex := rfl
@[simp] theorem advanceTx_attempts (s : State) : (advanceTx s).attempts = s.attempts := rfl
@[simp] theorem advanceTx_irrCount (s : State) : (advanceTx s).irrCount = s.irrCount := rfl
@[simp] theorem advanceTx_rxPos (s : State) : (advanceTx s).rxPos = s.rxPos := rfl
@[simp] theorem advanceTx_txPos (s : State) : (advanceTx s).txPos = s.txPos + 1 := rfl
@[simp] theorem advanceTx_rxst (s : State) : (advanceTx s).rxst = s.rxst := rfl
@[simp] theorem advanceTx_sqst (s : State) : (advanceTx s).sqst = s.sqst := rfl
@[simp] theorem advanceTx_rxXor (s : State) : (advanceTx s).rxXor = s.rxXor := rfl
@[simp] theorem advanceTx_txXor (s : State) :
    (advanceTx s).txXor = if 4 ≤ s.txPos.toNat ∧ s.txPos.toNat ≤ s.txLen.toNat + 3 then s.txXor ^^^ s.txByte (s.txPos.toNat - 4) else s.txXor := rfl
@[simp] theorem advanceTx_lcause (s : State) : (advanceTx s).lcause = s.lcause := rfl
@[simp] theorem advanceTx_txBuf (s : State) : (advanceTx s).txBuf = s.txBuf := rfl
@[simp] theorem advanceTx_rxBuf (s : State) : (advanceTx s).rxBuf = s.rxBuf := rfl
@[simp] theorem advanceTx_inReset (s : State) : (advanceTx s).inReset = s.inReset := rfl
@[simp] theorem advanceTx_txEpoch (s : State) : (advanceTx s).txEpoch = s.txEpoch := rfl
@[simp] theorem advanceTx_draws (s : State) : (advanceTx s).draws = s.draws := rfl
@[simp] theorem advanceTx_resp (s : State) : (advanceTx s).resp = s.resp := rfl
@[simp] theorem advanceTx_agenda (s : State) : (advanceTx s).agenda = s.agenda := rfl
@[simp] theorem advanceTx_rxQ (s : State) : (advanceTx s).rxQ = s.rxQ := rfl
@[simp] theorem advanceTx_sent (s : State) : (advanceTx s).sent = s.sent ++ [s.txFrameByte s.txPos.toNat] := rfl

/-! the preamble search -/

@[simp] theorem setRxst_busy (x : RxSt) (s : State) : (setRxst x s).busy = s.busy := rfl
@[simp] theorem setRxst_done (x : RxSt) (s : State) : (setRxst x s).done = s.done := rfl
@[simp] theorem setRxst_cmdErr (x : RxSt) (s : State) : (setRxst x s).cmdErr = s.cmdErr := rfl
@[simp] theorem setRxst_result (x : RxSt) (s : State) : (setRxst x s).result = s.result := rfl
@[simp] theorem setRxst_cause (x : RxSt) (s : State) : (setRxst x s).cause = s.cause := rfl
@[simp] theorem setRxst_op (x : RxSt) (s : State) : (setRxst x s).op = s.op := rfl
@[simp] theorem setRxst_maxAttempts (x : RxSt) (s : State) : (setRxst x s).maxAttempts = s.maxAttempts := rfl
@[simp] theorem setRxst_irrBound (x : RxSt) (s : State) : (setRxst x s).irrBound = s.irrBound := rfl
@[simp] theorem setRxst_ie (x : RxSt) (s : State) : (setRxst x s).ie = s.ie := rfl
@[simp] theorem setRxst_txLen (x : RxSt) (s : State) : (setRxst x s).txLen = s.txLen := rfl
@[simp] theorem setRxst_txIndex (x : RxSt) (s : State) : (setRxst x s).txIndex = s.txIndex := rfl
@[simp] theorem setRxst_rxLen (x : RxSt) (s : State) : (setRxst x s).rxLen = s.rxLen := rfl
@[simp] theorem setRxst_rxIndex (x : RxSt) (s : State) : (setRxst x s).rxIndex = s.rxIndex := rfl
@[simp] theorem setRxst_attempts (x : RxSt) (s : State) : (setRxst x s).attempts = s.attempts := rfl
@[simp] theorem setRxst_irrCount (x : RxSt) (s : State) : (setRxst x s).irrCount = s.irrCount := rfl
@[simp] theorem setRxst_rxPos (x : RxSt) (s : State) : (setRxst x s).rxPos = s.rxPos := rfl
@[simp] theorem setRxst_txPos (x : RxSt) (s : State) : (setRxst x s).txPos = s.txPos := rfl
@[simp] theorem setRxst_rxst (x : RxSt) (s : State) : (setRxst x s).rxst = x := rfl
@[simp] theorem setRxst_sqst (x : RxSt) (s : State) : (setRxst x s).sqst = s.sqst := rfl
@[simp] theorem setRxst_rxXor (x : RxSt) (s : State) : (setRxst x s).rxXor = s.rxXor := rfl
@[simp] theorem setRxst_txXor (x : RxSt) (s : State) : (setRxst x s).txXor = s.txXor := rfl
@[simp] theorem setRxst_lcause (x : RxSt) (s : State) : (setRxst x s).lcause = s.lcause := rfl
@[simp] theorem setRxst_txBuf (x : RxSt) (s : State) : (setRxst x s).txBuf = s.txBuf := rfl
@[simp] theorem setRxst_rxBuf (x : RxSt) (s : State) : (setRxst x s).rxBuf = s.rxBuf := rfl
@[simp] theorem setRxst_inReset (x : RxSt) (s : State) : (setRxst x s).inReset = s.inReset := rfl
@[simp] theorem setRxst_txEpoch (x : RxSt) (s : State) : (setRxst x s).txEpoch = s.txEpoch := rfl
@[simp] theorem setRxst_draws (x : RxSt) (s : State) : (setRxst x s).draws = s.draws := rfl
@[simp] theorem setRxst_resp (x : RxSt) (s : State) : (setRxst x s).resp = s.resp := rfl
@[simp] theorem setRxst_agenda (x : RxSt) (s : State) : (setRxst x s).agenda = s.agenda := rfl
@[simp] theorem setRxst_rxQ (x : RxSt) (s : State) : (setRxst x s).rxQ = s.rxQ := rfl
@[simp] theorem setRxst_sent (x : RxSt) (s : State) : (setRxst x s).sent = s.sent := rfl

/-! the first length byte -/

@[simp] theorem takeLengthHigh_busy (b : Byte) (s : State) : (takeLengthHigh b s).busy = s.busy := rfl
@[simp] theorem takeLengthHigh_done (b : Byte) (s : State) : (takeLengthHigh b s).done = s.done := rfl
@[simp] theorem takeLengthHigh_cmdErr (b : Byte) (s : State) : (takeLengthHigh b s).cmdErr = s.cmdErr := rfl
@[simp] theorem takeLengthHigh_result (b : Byte) (s : State) : (takeLengthHigh b s).result = s.result := rfl
@[simp] theorem takeLengthHigh_cause (b : Byte) (s : State) : (takeLengthHigh b s).cause = s.cause := rfl
@[simp] theorem takeLengthHigh_op (b : Byte) (s : State) : (takeLengthHigh b s).op = s.op := rfl
@[simp] theorem takeLengthHigh_maxAttempts (b : Byte) (s : State) : (takeLengthHigh b s).maxAttempts = s.maxAttempts := rfl
@[simp] theorem takeLengthHigh_irrBound (b : Byte) (s : State) : (takeLengthHigh b s).irrBound = s.irrBound := rfl
@[simp] theorem takeLengthHigh_ie (b : Byte) (s : State) : (takeLengthHigh b s).ie = s.ie := rfl
@[simp] theorem takeLengthHigh_txLen (b : Byte) (s : State) : (takeLengthHigh b s).txLen = s.txLen := rfl
@[simp] theorem takeLengthHigh_txIndex (b : Byte) (s : State) : (takeLengthHigh b s).txIndex = s.txIndex := rfl
@[simp] theorem takeLengthHigh_rxLen (b : Byte) (s : State) : (takeLengthHigh b s).rxLen = b ++ 0#8 := rfl
@[simp] theorem takeLengthHigh_rxIndex (b : Byte) (s : State) : (takeLengthHigh b s).rxIndex = s.rxIndex := rfl
@[simp] theorem takeLengthHigh_attempts (b : Byte) (s : State) : (takeLengthHigh b s).attempts = s.attempts := rfl
@[simp] theorem takeLengthHigh_irrCount (b : Byte) (s : State) : (takeLengthHigh b s).irrCount = s.irrCount := rfl
@[simp] theorem takeLengthHigh_rxPos (b : Byte) (s : State) : (takeLengthHigh b s).rxPos = s.rxPos := rfl
@[simp] theorem takeLengthHigh_txPos (b : Byte) (s : State) : (takeLengthHigh b s).txPos = s.txPos := rfl
@[simp] theorem takeLengthHigh_rxst (b : Byte) (s : State) : (takeLengthHigh b s).rxst = .lenL := rfl
@[simp] theorem takeLengthHigh_sqst (b : Byte) (s : State) : (takeLengthHigh b s).sqst = s.sqst := rfl
@[simp] theorem takeLengthHigh_rxXor (b : Byte) (s : State) : (takeLengthHigh b s).rxXor = s.rxXor := rfl
@[simp] theorem takeLengthHigh_txXor (b : Byte) (s : State) : (takeLengthHigh b s).txXor = s.txXor := rfl
@[simp] theorem takeLengthHigh_lcause (b : Byte) (s : State) : (takeLengthHigh b s).lcause = s.lcause := rfl
@[simp] theorem takeLengthHigh_txBuf (b : Byte) (s : State) : (takeLengthHigh b s).txBuf = s.txBuf := rfl
@[simp] theorem takeLengthHigh_rxBuf (b : Byte) (s : State) : (takeLengthHigh b s).rxBuf = s.rxBuf := rfl
@[simp] theorem takeLengthHigh_inReset (b : Byte) (s : State) : (takeLengthHigh b s).inReset = s.inReset := rfl
@[simp] theorem takeLengthHigh_txEpoch (b : Byte) (s : State) : (takeLengthHigh b s).txEpoch = s.txEpoch := rfl
@[simp] theorem takeLengthHigh_draws (b : Byte) (s : State) : (takeLengthHigh b s).draws = s.draws := rfl
@[simp] theorem takeLengthHigh_resp (b : Byte) (s : State) : (takeLengthHigh b s).resp = s.resp := rfl
@[simp] theorem takeLengthHigh_agenda (b : Byte) (s : State) : (takeLengthHigh b s).agenda = s.agenda := rfl
@[simp] theorem takeLengthHigh_rxQ (b : Byte) (s : State) : (takeLengthHigh b s).rxQ = s.rxQ := rfl
@[simp] theorem takeLengthHigh_sent (b : Byte) (s : State) : (takeLengthHigh b s).sent = s.sent := rfl

/-! the second length byte -/

@[simp] theorem takeLengthLow_busy (b : Byte) (s : State) : (takeLengthLow b s).busy = s.busy := rfl
@[simp] theorem takeLengthLow_done (b : Byte) (s : State) : (takeLengthLow b s).done = s.done := rfl
@[simp] theorem takeLengthLow_cmdErr (b : Byte) (s : State) : (takeLengthLow b s).cmdErr = s.cmdErr := rfl
@[simp] theorem takeLengthLow_result (b : Byte) (s : State) : (takeLengthLow b s).result = s.result := rfl
@[simp] theorem takeLengthLow_cause (b : Byte) (s : State) : (takeLengthLow b s).cause = s.cause := rfl
@[simp] theorem takeLengthLow_op (b : Byte) (s : State) : (takeLengthLow b s).op = s.op := rfl
@[simp] theorem takeLengthLow_maxAttempts (b : Byte) (s : State) : (takeLengthLow b s).maxAttempts = s.maxAttempts := rfl
@[simp] theorem takeLengthLow_irrBound (b : Byte) (s : State) : (takeLengthLow b s).irrBound = s.irrBound := rfl
@[simp] theorem takeLengthLow_ie (b : Byte) (s : State) : (takeLengthLow b s).ie = s.ie := rfl
@[simp] theorem takeLengthLow_txLen (b : Byte) (s : State) : (takeLengthLow b s).txLen = s.txLen := rfl
@[simp] theorem takeLengthLow_txIndex (b : Byte) (s : State) : (takeLengthLow b s).txIndex = s.txIndex := rfl
@[simp] theorem takeLengthLow_rxLen (b : Byte) (s : State) : (takeLengthLow b s).rxLen = s.rxLen.extractLsb' 8 8 ++ b := rfl
@[simp] theorem takeLengthLow_rxIndex (b : Byte) (s : State) : (takeLengthLow b s).rxIndex = s.rxIndex := rfl
@[simp] theorem takeLengthLow_attempts (b : Byte) (s : State) : (takeLengthLow b s).attempts = s.attempts := rfl
@[simp] theorem takeLengthLow_irrCount (b : Byte) (s : State) : (takeLengthLow b s).irrCount = s.irrCount := rfl
@[simp] theorem takeLengthLow_rxPos (b : Byte) (s : State) : (takeLengthLow b s).rxPos = 0 := rfl
@[simp] theorem takeLengthLow_txPos (b : Byte) (s : State) : (takeLengthLow b s).txPos = s.txPos := rfl
@[simp] theorem takeLengthLow_rxst (b : Byte) (s : State) : (takeLengthLow b s).rxst = .body := rfl
@[simp] theorem takeLengthLow_sqst (b : Byte) (s : State) : (takeLengthLow b s).sqst = s.sqst := rfl
@[simp] theorem takeLengthLow_rxXor (b : Byte) (s : State) : (takeLengthLow b s).rxXor = 0 := rfl
@[simp] theorem takeLengthLow_txXor (b : Byte) (s : State) : (takeLengthLow b s).txXor = s.txXor := rfl
@[simp] theorem takeLengthLow_lcause (b : Byte) (s : State) : (takeLengthLow b s).lcause = s.lcause := rfl
@[simp] theorem takeLengthLow_txBuf (b : Byte) (s : State) : (takeLengthLow b s).txBuf = s.txBuf := rfl
@[simp] theorem takeLengthLow_rxBuf (b : Byte) (s : State) : (takeLengthLow b s).rxBuf = s.rxBuf := rfl
@[simp] theorem takeLengthLow_inReset (b : Byte) (s : State) : (takeLengthLow b s).inReset = s.inReset := rfl
@[simp] theorem takeLengthLow_txEpoch (b : Byte) (s : State) : (takeLengthLow b s).txEpoch = s.txEpoch := rfl
@[simp] theorem takeLengthLow_draws (b : Byte) (s : State) : (takeLengthLow b s).draws = s.draws := rfl
@[simp] theorem takeLengthLow_resp (b : Byte) (s : State) : (takeLengthLow b s).resp = s.resp := rfl
@[simp] theorem takeLengthLow_agenda (b : Byte) (s : State) : (takeLengthLow b s).agenda = s.agenda := rfl
@[simp] theorem takeLengthLow_rxQ (b : Byte) (s : State) : (takeLengthLow b s).rxQ = s.rxQ := rfl
@[simp] theorem takeLengthLow_sent (b : Byte) (s : State) : (takeLengthLow b s).sent = s.sent := rfl

/-! RXSRC's events -/

@[simp] theorem setRxQ_busy (q : List RxEvent) (s : State) : (setRxQ q s).busy = s.busy := rfl
@[simp] theorem setRxQ_done (q : List RxEvent) (s : State) : (setRxQ q s).done = s.done := rfl
@[simp] theorem setRxQ_cmdErr (q : List RxEvent) (s : State) : (setRxQ q s).cmdErr = s.cmdErr := rfl
@[simp] theorem setRxQ_result (q : List RxEvent) (s : State) : (setRxQ q s).result = s.result := rfl
@[simp] theorem setRxQ_cause (q : List RxEvent) (s : State) : (setRxQ q s).cause = s.cause := rfl
@[simp] theorem setRxQ_op (q : List RxEvent) (s : State) : (setRxQ q s).op = s.op := rfl
@[simp] theorem setRxQ_maxAttempts (q : List RxEvent) (s : State) : (setRxQ q s).maxAttempts = s.maxAttempts := rfl
@[simp] theorem setRxQ_irrBound (q : List RxEvent) (s : State) : (setRxQ q s).irrBound = s.irrBound := rfl
@[simp] theorem setRxQ_ie (q : List RxEvent) (s : State) : (setRxQ q s).ie = s.ie := rfl
@[simp] theorem setRxQ_txLen (q : List RxEvent) (s : State) : (setRxQ q s).txLen = s.txLen := rfl
@[simp] theorem setRxQ_txIndex (q : List RxEvent) (s : State) : (setRxQ q s).txIndex = s.txIndex := rfl
@[simp] theorem setRxQ_rxLen (q : List RxEvent) (s : State) : (setRxQ q s).rxLen = s.rxLen := rfl
@[simp] theorem setRxQ_rxIndex (q : List RxEvent) (s : State) : (setRxQ q s).rxIndex = s.rxIndex := rfl
@[simp] theorem setRxQ_attempts (q : List RxEvent) (s : State) : (setRxQ q s).attempts = s.attempts := rfl
@[simp] theorem setRxQ_irrCount (q : List RxEvent) (s : State) : (setRxQ q s).irrCount = s.irrCount := rfl
@[simp] theorem setRxQ_rxPos (q : List RxEvent) (s : State) : (setRxQ q s).rxPos = s.rxPos := rfl
@[simp] theorem setRxQ_txPos (q : List RxEvent) (s : State) : (setRxQ q s).txPos = s.txPos := rfl
@[simp] theorem setRxQ_rxst (q : List RxEvent) (s : State) : (setRxQ q s).rxst = s.rxst := rfl
@[simp] theorem setRxQ_sqst (q : List RxEvent) (s : State) : (setRxQ q s).sqst = s.sqst := rfl
@[simp] theorem setRxQ_rxXor (q : List RxEvent) (s : State) : (setRxQ q s).rxXor = s.rxXor := rfl
@[simp] theorem setRxQ_txXor (q : List RxEvent) (s : State) : (setRxQ q s).txXor = s.txXor := rfl
@[simp] theorem setRxQ_lcause (q : List RxEvent) (s : State) : (setRxQ q s).lcause = s.lcause := rfl
@[simp] theorem setRxQ_txBuf (q : List RxEvent) (s : State) : (setRxQ q s).txBuf = s.txBuf := rfl
@[simp] theorem setRxQ_rxBuf (q : List RxEvent) (s : State) : (setRxQ q s).rxBuf = s.rxBuf := rfl
@[simp] theorem setRxQ_inReset (q : List RxEvent) (s : State) : (setRxQ q s).inReset = s.inReset := rfl
@[simp] theorem setRxQ_txEpoch (q : List RxEvent) (s : State) : (setRxQ q s).txEpoch = s.txEpoch := rfl
@[simp] theorem setRxQ_draws (q : List RxEvent) (s : State) : (setRxQ q s).draws = s.draws := rfl
@[simp] theorem setRxQ_resp (q : List RxEvent) (s : State) : (setRxQ q s).resp = s.resp := rfl
@[simp] theorem setRxQ_agenda (q : List RxEvent) (s : State) : (setRxQ q s).agenda = s.agenda := rfl
@[simp] theorem setRxQ_rxQ (q : List RxEvent) (s : State) : (setRxQ q s).rxQ = q := rfl
@[simp] theorem setRxQ_sent (q : List RxEvent) (s : State) : (setRxQ q s).sent = s.sent := rfl

/-! the turns -/

@[simp] theorem setAgenda_busy (l : List Turn) (s : State) : (setAgenda l s).busy = s.busy := rfl
@[simp] theorem setAgenda_done (l : List Turn) (s : State) : (setAgenda l s).done = s.done := rfl
@[simp] theorem setAgenda_cmdErr (l : List Turn) (s : State) : (setAgenda l s).cmdErr = s.cmdErr := rfl
@[simp] theorem setAgenda_result (l : List Turn) (s : State) : (setAgenda l s).result = s.result := rfl
@[simp] theorem setAgenda_cause (l : List Turn) (s : State) : (setAgenda l s).cause = s.cause := rfl
@[simp] theorem setAgenda_op (l : List Turn) (s : State) : (setAgenda l s).op = s.op := rfl
@[simp] theorem setAgenda_maxAttempts (l : List Turn) (s : State) : (setAgenda l s).maxAttempts = s.maxAttempts := rfl
@[simp] theorem setAgenda_irrBound (l : List Turn) (s : State) : (setAgenda l s).irrBound = s.irrBound := rfl
@[simp] theorem setAgenda_ie (l : List Turn) (s : State) : (setAgenda l s).ie = s.ie := rfl
@[simp] theorem setAgenda_txLen (l : List Turn) (s : State) : (setAgenda l s).txLen = s.txLen := rfl
@[simp] theorem setAgenda_txIndex (l : List Turn) (s : State) : (setAgenda l s).txIndex = s.txIndex := rfl
@[simp] theorem setAgenda_rxLen (l : List Turn) (s : State) : (setAgenda l s).rxLen = s.rxLen := rfl
@[simp] theorem setAgenda_rxIndex (l : List Turn) (s : State) : (setAgenda l s).rxIndex = s.rxIndex := rfl
@[simp] theorem setAgenda_attempts (l : List Turn) (s : State) : (setAgenda l s).attempts = s.attempts := rfl
@[simp] theorem setAgenda_irrCount (l : List Turn) (s : State) : (setAgenda l s).irrCount = s.irrCount := rfl
@[simp] theorem setAgenda_rxPos (l : List Turn) (s : State) : (setAgenda l s).rxPos = s.rxPos := rfl
@[simp] theorem setAgenda_txPos (l : List Turn) (s : State) : (setAgenda l s).txPos = s.txPos := rfl
@[simp] theorem setAgenda_rxst (l : List Turn) (s : State) : (setAgenda l s).rxst = s.rxst := rfl
@[simp] theorem setAgenda_sqst (l : List Turn) (s : State) : (setAgenda l s).sqst = s.sqst := rfl
@[simp] theorem setAgenda_rxXor (l : List Turn) (s : State) : (setAgenda l s).rxXor = s.rxXor := rfl
@[simp] theorem setAgenda_txXor (l : List Turn) (s : State) : (setAgenda l s).txXor = s.txXor := rfl
@[simp] theorem setAgenda_lcause (l : List Turn) (s : State) : (setAgenda l s).lcause = s.lcause := rfl
@[simp] theorem setAgenda_txBuf (l : List Turn) (s : State) : (setAgenda l s).txBuf = s.txBuf := rfl
@[simp] theorem setAgenda_rxBuf (l : List Turn) (s : State) : (setAgenda l s).rxBuf = s.rxBuf := rfl
@[simp] theorem setAgenda_inReset (l : List Turn) (s : State) : (setAgenda l s).inReset = s.inReset := rfl
@[simp] theorem setAgenda_txEpoch (l : List Turn) (s : State) : (setAgenda l s).txEpoch = s.txEpoch := rfl
@[simp] theorem setAgenda_draws (l : List Turn) (s : State) : (setAgenda l s).draws = s.draws := rfl
@[simp] theorem setAgenda_resp (l : List Turn) (s : State) : (setAgenda l s).resp = s.resp := rfl
@[simp] theorem setAgenda_agenda (l : List Turn) (s : State) : (setAgenda l s).agenda = l := rfl
@[simp] theorem setAgenda_rxQ (l : List Turn) (s : State) : (setAgenda l s).rxQ = s.rxQ := rfl
@[simp] theorem setAgenda_sent (l : List Turn) (s : State) : (setAgenda l s).sent = s.sent := rfl

/-! the release of reset -/

@[simp] theorem releaseReset_busy (s : State) : (releaseReset s).busy = s.busy := rfl
@[simp] theorem releaseReset_done (s : State) : (releaseReset s).done = s.done := rfl
@[simp] theorem releaseReset_cmdErr (s : State) : (releaseReset s).cmdErr = s.cmdErr := rfl
@[simp] theorem releaseReset_result (s : State) : (releaseReset s).result = s.result := rfl
@[simp] theorem releaseReset_cause (s : State) : (releaseReset s).cause = s.cause := rfl
@[simp] theorem releaseReset_op (s : State) : (releaseReset s).op = s.op := rfl
@[simp] theorem releaseReset_maxAttempts (s : State) : (releaseReset s).maxAttempts = s.maxAttempts := rfl
@[simp] theorem releaseReset_irrBound (s : State) : (releaseReset s).irrBound = s.irrBound := rfl
@[simp] theorem releaseReset_ie (s : State) : (releaseReset s).ie = s.ie := rfl
@[simp] theorem releaseReset_txLen (s : State) : (releaseReset s).txLen = s.txLen := rfl
@[simp] theorem releaseReset_txIndex (s : State) : (releaseReset s).txIndex = s.txIndex := rfl
@[simp] theorem releaseReset_rxLen (s : State) : (releaseReset s).rxLen = s.rxLen := rfl
@[simp] theorem releaseReset_rxIndex (s : State) : (releaseReset s).rxIndex = s.rxIndex := rfl
@[simp] theorem releaseReset_attempts (s : State) : (releaseReset s).attempts = s.attempts := rfl
@[simp] theorem releaseReset_irrCount (s : State) : (releaseReset s).irrCount = s.irrCount := rfl
@[simp] theorem releaseReset_rxPos (s : State) : (releaseReset s).rxPos = s.rxPos := rfl
@[simp] theorem releaseReset_txPos (s : State) : (releaseReset s).txPos = s.txPos := rfl
@[simp] theorem releaseReset_rxst (s : State) : (releaseReset s).rxst = s.rxst := rfl
@[simp] theorem releaseReset_sqst (s : State) : (releaseReset s).sqst = s.sqst := rfl
@[simp] theorem releaseReset_rxXor (s : State) : (releaseReset s).rxXor = s.rxXor := rfl
@[simp] theorem releaseReset_txXor (s : State) : (releaseReset s).txXor = s.txXor := rfl
@[simp] theorem releaseReset_lcause (s : State) : (releaseReset s).lcause = s.lcause := rfl
@[simp] theorem releaseReset_txBuf (s : State) : (releaseReset s).txBuf = s.txBuf := rfl
@[simp] theorem releaseReset_rxBuf (s : State) : (releaseReset s).rxBuf = s.rxBuf := rfl
@[simp] theorem releaseReset_inReset (s : State) : (releaseReset s).inReset = false := rfl
@[simp] theorem releaseReset_txEpoch (s : State) : (releaseReset s).txEpoch = s.txEpoch := rfl
@[simp] theorem releaseReset_draws (s : State) : (releaseReset s).draws = s.draws := rfl
@[simp] theorem releaseReset_resp (s : State) : (releaseReset s).resp = s.resp := rfl
@[simp] theorem releaseReset_agenda (s : State) : (releaseReset s).agenda = s.agenda := rfl
@[simp] theorem releaseReset_rxQ (s : State) : (releaseReset s).rxQ = s.rxQ := rfl
@[simp] theorem releaseReset_sent (s : State) : (releaseReset s).sent = s.sent := rfl

/-! an answer to the host -/

@[simp] theorem respond_busy (r : Response) (s : State) : (respond r s).busy = s.busy := rfl
@[simp] theorem respond_done (r : Response) (s : State) : (respond r s).done = s.done := rfl
@[simp] theorem respond_cmdErr (r : Response) (s : State) : (respond r s).cmdErr = s.cmdErr := rfl
@[simp] theorem respond_result (r : Response) (s : State) : (respond r s).result = s.result := rfl
@[simp] theorem respond_cause (r : Response) (s : State) : (respond r s).cause = s.cause := rfl
@[simp] theorem respond_op (r : Response) (s : State) : (respond r s).op = s.op := rfl
@[simp] theorem respond_maxAttempts (r : Response) (s : State) : (respond r s).maxAttempts = s.maxAttempts := rfl
@[simp] theorem respond_irrBound (r : Response) (s : State) : (respond r s).irrBound = s.irrBound := rfl
@[simp] theorem respond_ie (r : Response) (s : State) : (respond r s).ie = s.ie := rfl
@[simp] theorem respond_txLen (r : Response) (s : State) : (respond r s).txLen = s.txLen := rfl
@[simp] theorem respond_txIndex (r : Response) (s : State) : (respond r s).txIndex = s.txIndex := rfl
@[simp] theorem respond_rxLen (r : Response) (s : State) : (respond r s).rxLen = s.rxLen := rfl
@[simp] theorem respond_rxIndex (r : Response) (s : State) : (respond r s).rxIndex = s.rxIndex := rfl
@[simp] theorem respond_attempts (r : Response) (s : State) : (respond r s).attempts = s.attempts := rfl
@[simp] theorem respond_irrCount (r : Response) (s : State) : (respond r s).irrCount = s.irrCount := rfl
@[simp] theorem respond_rxPos (r : Response) (s : State) : (respond r s).rxPos = s.rxPos := rfl
@[simp] theorem respond_txPos (r : Response) (s : State) : (respond r s).txPos = s.txPos := rfl
@[simp] theorem respond_rxst (r : Response) (s : State) : (respond r s).rxst = s.rxst := rfl
@[simp] theorem respond_sqst (r : Response) (s : State) : (respond r s).sqst = s.sqst := rfl
@[simp] theorem respond_rxXor (r : Response) (s : State) : (respond r s).rxXor = s.rxXor := rfl
@[simp] theorem respond_txXor (r : Response) (s : State) : (respond r s).txXor = s.txXor := rfl
@[simp] theorem respond_lcause (r : Response) (s : State) : (respond r s).lcause = s.lcause := rfl
@[simp] theorem respond_txBuf (r : Response) (s : State) : (respond r s).txBuf = s.txBuf := rfl
@[simp] theorem respond_rxBuf (r : Response) (s : State) : (respond r s).rxBuf = s.rxBuf := rfl
@[simp] theorem respond_inReset (r : Response) (s : State) : (respond r s).inReset = s.inReset := rfl
@[simp] theorem respond_txEpoch (r : Response) (s : State) : (respond r s).txEpoch = s.txEpoch := rfl
@[simp] theorem respond_draws (r : Response) (s : State) : (respond r s).draws = s.draws := rfl
@[simp] theorem respond_resp (r : Response) (s : State) : (respond r s).resp = r := rfl
@[simp] theorem respond_agenda (r : Response) (s : State) : (respond r s).agenda = s.agenda := rfl
@[simp] theorem respond_rxQ (r : Response) (s : State) : (respond r s).rxQ = s.rxQ := rfl
@[simp] theorem respond_sent (r : Response) (s : State) : (respond r s).sent = s.sent := rfl

/-! a free value drawn -/

@[simp] theorem draw_busy (s : State) : (draw s).busy = s.busy := rfl
@[simp] theorem draw_done (s : State) : (draw s).done = s.done := rfl
@[simp] theorem draw_cmdErr (s : State) : (draw s).cmdErr = s.cmdErr := rfl
@[simp] theorem draw_result (s : State) : (draw s).result = s.result := rfl
@[simp] theorem draw_cause (s : State) : (draw s).cause = s.cause := rfl
@[simp] theorem draw_op (s : State) : (draw s).op = s.op := rfl
@[simp] theorem draw_maxAttempts (s : State) : (draw s).maxAttempts = s.maxAttempts := rfl
@[simp] theorem draw_irrBound (s : State) : (draw s).irrBound = s.irrBound := rfl
@[simp] theorem draw_ie (s : State) : (draw s).ie = s.ie := rfl
@[simp] theorem draw_txLen (s : State) : (draw s).txLen = s.txLen := rfl
@[simp] theorem draw_txIndex (s : State) : (draw s).txIndex = s.txIndex := rfl
@[simp] theorem draw_rxLen (s : State) : (draw s).rxLen = s.rxLen := rfl
@[simp] theorem draw_rxIndex (s : State) : (draw s).rxIndex = s.rxIndex := rfl
@[simp] theorem draw_attempts (s : State) : (draw s).attempts = s.attempts := rfl
@[simp] theorem draw_irrCount (s : State) : (draw s).irrCount = s.irrCount := rfl
@[simp] theorem draw_rxPos (s : State) : (draw s).rxPos = s.rxPos := rfl
@[simp] theorem draw_txPos (s : State) : (draw s).txPos = s.txPos := rfl
@[simp] theorem draw_rxst (s : State) : (draw s).rxst = s.rxst := rfl
@[simp] theorem draw_sqst (s : State) : (draw s).sqst = s.sqst := rfl
@[simp] theorem draw_rxXor (s : State) : (draw s).rxXor = s.rxXor := rfl
@[simp] theorem draw_txXor (s : State) : (draw s).txXor = s.txXor := rfl
@[simp] theorem draw_lcause (s : State) : (draw s).lcause = s.lcause := rfl
@[simp] theorem draw_txBuf (s : State) : (draw s).txBuf = s.txBuf := rfl
@[simp] theorem draw_rxBuf (s : State) : (draw s).rxBuf = s.rxBuf := rfl
@[simp] theorem draw_inReset (s : State) : (draw s).inReset = s.inReset := rfl
@[simp] theorem draw_txEpoch (s : State) : (draw s).txEpoch = s.txEpoch := rfl
@[simp] theorem draw_draws (s : State) : (draw s).draws = s.draws + 1 := rfl
@[simp] theorem draw_resp (s : State) : (draw s).resp = s.resp := rfl
@[simp] theorem draw_agenda (s : State) : (draw s).agenda = s.agenda := rfl
@[simp] theorem draw_rxQ (s : State) : (draw s).rxQ = s.rxQ := rfl
@[simp] theorem draw_sent (s : State) : (draw s).sent = s.sent := rfl

/-! a refused write -/

@[simp] theorem refuseWrite_busy (s : State) : (refuseWrite s).busy = s.busy := rfl
@[simp] theorem refuseWrite_done (s : State) : (refuseWrite s).done = s.done := rfl
@[simp] theorem refuseWrite_cmdErr (s : State) : (refuseWrite s).cmdErr = true := rfl
@[simp] theorem refuseWrite_result (s : State) : (refuseWrite s).result = s.result := rfl
@[simp] theorem refuseWrite_cause (s : State) : (refuseWrite s).cause = s.cause := rfl
@[simp] theorem refuseWrite_op (s : State) : (refuseWrite s).op = s.op := rfl
@[simp] theorem refuseWrite_maxAttempts (s : State) : (refuseWrite s).maxAttempts = s.maxAttempts := rfl
@[simp] theorem refuseWrite_irrBound (s : State) : (refuseWrite s).irrBound = s.irrBound := rfl
@[simp] theorem refuseWrite_ie (s : State) : (refuseWrite s).ie = s.ie := rfl
@[simp] theorem refuseWrite_txLen (s : State) : (refuseWrite s).txLen = s.txLen := rfl
@[simp] theorem refuseWrite_txIndex (s : State) : (refuseWrite s).txIndex = s.txIndex := rfl
@[simp] theorem refuseWrite_rxLen (s : State) : (refuseWrite s).rxLen = s.rxLen := rfl
@[simp] theorem refuseWrite_rxIndex (s : State) : (refuseWrite s).rxIndex = s.rxIndex := rfl
@[simp] theorem refuseWrite_attempts (s : State) : (refuseWrite s).attempts = s.attempts := rfl
@[simp] theorem refuseWrite_irrCount (s : State) : (refuseWrite s).irrCount = s.irrCount := rfl
@[simp] theorem refuseWrite_rxPos (s : State) : (refuseWrite s).rxPos = s.rxPos := rfl
@[simp] theorem refuseWrite_txPos (s : State) : (refuseWrite s).txPos = s.txPos := rfl
@[simp] theorem refuseWrite_rxst (s : State) : (refuseWrite s).rxst = s.rxst := rfl
@[simp] theorem refuseWrite_sqst (s : State) : (refuseWrite s).sqst = s.sqst := rfl
@[simp] theorem refuseWrite_rxXor (s : State) : (refuseWrite s).rxXor = s.rxXor := rfl
@[simp] theorem refuseWrite_txXor (s : State) : (refuseWrite s).txXor = s.txXor := rfl
@[simp] theorem refuseWrite_lcause (s : State) : (refuseWrite s).lcause = s.lcause := rfl
@[simp] theorem refuseWrite_txBuf (s : State) : (refuseWrite s).txBuf = s.txBuf := rfl
@[simp] theorem refuseWrite_rxBuf (s : State) : (refuseWrite s).rxBuf = s.rxBuf := rfl
@[simp] theorem refuseWrite_inReset (s : State) : (refuseWrite s).inReset = s.inReset := rfl
@[simp] theorem refuseWrite_txEpoch (s : State) : (refuseWrite s).txEpoch = s.txEpoch := rfl
@[simp] theorem refuseWrite_draws (s : State) : (refuseWrite s).draws = s.draws := rfl
@[simp] theorem refuseWrite_resp (s : State) : (refuseWrite s).resp = s.resp := rfl
@[simp] theorem refuseWrite_agenda (s : State) : (refuseWrite s).agenda = s.agenda := rfl
@[simp] theorem refuseWrite_rxQ (s : State) : (refuseWrite s).rxQ = s.rxQ := rfl
@[simp] theorem refuseWrite_sent (s : State) : (refuseWrite s).sent = s.sent := rfl

/-! acceptance of a command -/

@[simp] theorem accept_busy (o : Op) (s : State) : (accept o s).busy = true := rfl
@[simp] theorem accept_done (o : Op) (s : State) : (accept o s).done = false := rfl
@[simp] theorem accept_cmdErr (o : Op) (s : State) : (accept o s).cmdErr = s.cmdErr := rfl
@[simp] theorem accept_result (o : Op) (s : State) : (accept o s).result = .none := rfl
@[simp] theorem accept_cause (o : Op) (s : State) : (accept o s).cause = .none := rfl
@[simp] theorem accept_op (o : Op) (s : State) : (accept o s).op = o := rfl
@[simp] theorem accept_maxAttempts (o : Op) (s : State) : (accept o s).maxAttempts = s.maxAttempts := rfl
@[simp] theorem accept_irrBound (o : Op) (s : State) : (accept o s).irrBound = s.irrBound := rfl
@[simp] theorem accept_ie (o : Op) (s : State) : (accept o s).ie = s.ie := rfl
@[simp] theorem accept_txLen (o : Op) (s : State) : (accept o s).txLen = s.txLen := rfl
@[simp] theorem accept_txIndex (o : Op) (s : State) : (accept o s).txIndex = s.txIndex := rfl
@[simp] theorem accept_rxLen (o : Op) (s : State) : (accept o s).rxLen = s.rxLen := rfl
@[simp] theorem accept_rxIndex (o : Op) (s : State) : (accept o s).rxIndex = s.rxIndex := rfl
@[simp] theorem accept_attempts (o : Op) (s : State) : (accept o s).attempts = s.attempts := rfl
@[simp] theorem accept_irrCount (o : Op) (s : State) : (accept o s).irrCount = s.irrCount := rfl
@[simp] theorem accept_rxPos (o : Op) (s : State) : (accept o s).rxPos = s.rxPos := rfl
@[simp] theorem accept_txPos (o : Op) (s : State) : (accept o s).txPos = s.txPos := rfl
@[simp] theorem accept_rxst (o : Op) (s : State) : (accept o s).rxst = s.rxst := rfl
@[simp] theorem accept_sqst (o : Op) (s : State) : (accept o s).sqst = s.sqst := rfl
@[simp] theorem accept_rxXor (o : Op) (s : State) : (accept o s).rxXor = s.rxXor := rfl
@[simp] theorem accept_txXor (o : Op) (s : State) : (accept o s).txXor = s.txXor := rfl
@[simp] theorem accept_lcause (o : Op) (s : State) : (accept o s).lcause = .none := rfl
@[simp] theorem accept_txBuf (o : Op) (s : State) : (accept o s).txBuf = s.txBuf := rfl
@[simp] theorem accept_rxBuf (o : Op) (s : State) : (accept o s).rxBuf = s.rxBuf := rfl
@[simp] theorem accept_inReset (o : Op) (s : State) : (accept o s).inReset = s.inReset := rfl
@[simp] theorem accept_txEpoch (o : Op) (s : State) : (accept o s).txEpoch = s.txEpoch := rfl
@[simp] theorem accept_draws (o : Op) (s : State) : (accept o s).draws = s.draws := rfl
@[simp] theorem accept_resp (o : Op) (s : State) : (accept o s).resp = s.resp := rfl
@[simp] theorem accept_agenda (o : Op) (s : State) : (accept o s).agenda = s.agenda := rfl
@[simp] theorem accept_rxQ (o : Op) (s : State) : (accept o s).rxQ = s.rxQ := rfl
@[simp] theorem accept_sent (o : Op) (s : State) : (accept o s).sent = s.sent := rfl

/-! the reset step -/

@[simp] theorem resetStep_busy (s : State) : (resetStep s).busy = false := rfl
@[simp] theorem resetStep_done (s : State) : (resetStep s).done = false := rfl
@[simp] theorem resetStep_cmdErr (s : State) : (resetStep s).cmdErr = false := rfl
@[simp] theorem resetStep_result (s : State) : (resetStep s).result = .none := rfl
@[simp] theorem resetStep_cause (s : State) : (resetStep s).cause = .none := rfl
@[simp] theorem resetStep_op (s : State) : (resetStep s).op = .nop := rfl
@[simp] theorem resetStep_maxAttempts (s : State) : (resetStep s).maxAttempts = Config.defaultAttempts := rfl
@[simp] theorem resetStep_irrBound (s : State) : (resetStep s).irrBound = Config.defaultBound := rfl
@[simp] theorem resetStep_ie (s : State) : (resetStep s).ie = false := rfl
@[simp] theorem resetStep_txLen (s : State) : (resetStep s).txLen = 0 := rfl
@[simp] theorem resetStep_txIndex (s : State) : (resetStep s).txIndex = 0 := rfl
@[simp] theorem resetStep_rxLen (s : State) : (resetStep s).rxLen = 0 := rfl
@[simp] theorem resetStep_rxIndex (s : State) : (resetStep s).rxIndex = 0 := rfl
@[simp] theorem resetStep_attempts (s : State) : (resetStep s).attempts = 0 := rfl
@[simp] theorem resetStep_irrCount (s : State) : (resetStep s).irrCount = 0 := rfl
@[simp] theorem resetStep_rxPos (s : State) : (resetStep s).rxPos = 0 := rfl
@[simp] theorem resetStep_txPos (s : State) : (resetStep s).txPos = 0 := rfl
@[simp] theorem resetStep_rxst (s : State) : (resetStep s).rxst = .idle := rfl
@[simp] theorem resetStep_sqst (s : State) : (resetStep s).sqst = .idle := rfl
@[simp] theorem resetStep_rxXor (s : State) : (resetStep s).rxXor = 0 := rfl
@[simp] theorem resetStep_txXor (s : State) : (resetStep s).txXor = 0 := rfl
@[simp] theorem resetStep_lcause (s : State) : (resetStep s).lcause = .none := rfl
@[simp] theorem resetStep_txBuf (s : State) : (resetStep s).txBuf = s.txBuf := rfl
@[simp] theorem resetStep_rxBuf (s : State) : (resetStep s).rxBuf = s.rxBuf := rfl
@[simp] theorem resetStep_inReset (s : State) : (resetStep s).inReset = true := rfl
@[simp] theorem resetStep_txEpoch (s : State) : (resetStep s).txEpoch = s.txEpoch := rfl
@[simp] theorem resetStep_draws (s : State) : (resetStep s).draws = s.draws := rfl
@[simp] theorem resetStep_resp (s : State) : (resetStep s).resp = s.resp := rfl
@[simp] theorem resetStep_agenda (s : State) : (resetStep s).agenda = s.agenda := rfl
@[simp] theorem resetStep_rxQ (s : State) : (resetStep s).rxQ = s.rxQ := rfl
@[simp] theorem resetStep_sent (s : State) : (resetStep s).sent = s.sent := rfl

/-! a write in reset -/

@[simp] theorem scrambleTx_busy (s : State) : (scrambleTx s).busy = s.busy := rfl
@[simp] theorem scrambleTx_done (s : State) : (scrambleTx s).done = s.done := rfl
@[simp] theorem scrambleTx_cmdErr (s : State) : (scrambleTx s).cmdErr = s.cmdErr := rfl
@[simp] theorem scrambleTx_result (s : State) : (scrambleTx s).result = s.result := rfl
@[simp] theorem scrambleTx_cause (s : State) : (scrambleTx s).cause = s.cause := rfl
@[simp] theorem scrambleTx_op (s : State) : (scrambleTx s).op = s.op := rfl
@[simp] theorem scrambleTx_maxAttempts (s : State) : (scrambleTx s).maxAttempts = s.maxAttempts := rfl
@[simp] theorem scrambleTx_irrBound (s : State) : (scrambleTx s).irrBound = s.irrBound := rfl
@[simp] theorem scrambleTx_ie (s : State) : (scrambleTx s).ie = s.ie := rfl
@[simp] theorem scrambleTx_txLen (s : State) : (scrambleTx s).txLen = s.txLen := rfl
@[simp] theorem scrambleTx_txIndex (s : State) : (scrambleTx s).txIndex = s.txIndex := rfl
@[simp] theorem scrambleTx_rxLen (s : State) : (scrambleTx s).rxLen = s.rxLen := rfl
@[simp] theorem scrambleTx_rxIndex (s : State) : (scrambleTx s).rxIndex = s.rxIndex := rfl
@[simp] theorem scrambleTx_attempts (s : State) : (scrambleTx s).attempts = s.attempts := rfl
@[simp] theorem scrambleTx_irrCount (s : State) : (scrambleTx s).irrCount = s.irrCount := rfl
@[simp] theorem scrambleTx_rxPos (s : State) : (scrambleTx s).rxPos = s.rxPos := rfl
@[simp] theorem scrambleTx_txPos (s : State) : (scrambleTx s).txPos = s.txPos := rfl
@[simp] theorem scrambleTx_rxst (s : State) : (scrambleTx s).rxst = s.rxst := rfl
@[simp] theorem scrambleTx_sqst (s : State) : (scrambleTx s).sqst = s.sqst := rfl
@[simp] theorem scrambleTx_rxXor (s : State) : (scrambleTx s).rxXor = s.rxXor := rfl
@[simp] theorem scrambleTx_txXor (s : State) : (scrambleTx s).txXor = s.txXor := rfl
@[simp] theorem scrambleTx_lcause (s : State) : (scrambleTx s).lcause = s.lcause := rfl
@[simp] theorem scrambleTx_txBuf (s : State) : (scrambleTx s).txBuf = [] := rfl
@[simp] theorem scrambleTx_rxBuf (s : State) : (scrambleTx s).rxBuf = s.rxBuf := rfl
@[simp] theorem scrambleTx_inReset (s : State) : (scrambleTx s).inReset = s.inReset := rfl
@[simp] theorem scrambleTx_txEpoch (s : State) : (scrambleTx s).txEpoch = s.draws + 1 := rfl
@[simp] theorem scrambleTx_draws (s : State) : (scrambleTx s).draws = s.draws + 1 := rfl
@[simp] theorem scrambleTx_resp (s : State) : (scrambleTx s).resp = s.resp := rfl
@[simp] theorem scrambleTx_agenda (s : State) : (scrambleTx s).agenda = s.agenda := rfl
@[simp] theorem scrambleTx_rxQ (s : State) : (scrambleTx s).rxQ = s.rxQ := rfl
@[simp] theorem scrambleTx_sent (s : State) : (scrambleTx s).sent = s.sent := rfl

/-! the W1C write of STATUS -/

@[simp] theorem writeStatus_busy (v : Word) (s : State) : (writeStatus v s).busy = s.busy := rfl
@[simp] theorem writeStatus_done (v : Word) (s : State) : (writeStatus v s).done = if v.getLsbD 1 then false else s.done := rfl
@[simp] theorem writeStatus_cmdErr (v : Word) (s : State) : (writeStatus v s).cmdErr = if v.getLsbD 2 then false else s.cmdErr := rfl
@[simp] theorem writeStatus_result (v : Word) (s : State) : (writeStatus v s).result = s.result := rfl
@[simp] theorem writeStatus_cause (v : Word) (s : State) : (writeStatus v s).cause = s.cause := rfl
@[simp] theorem writeStatus_op (v : Word) (s : State) : (writeStatus v s).op = s.op := rfl
@[simp] theorem writeStatus_maxAttempts (v : Word) (s : State) : (writeStatus v s).maxAttempts = s.maxAttempts := rfl
@[simp] theorem writeStatus_irrBound (v : Word) (s : State) : (writeStatus v s).irrBound = s.irrBound := rfl
@[simp] theorem writeStatus_ie (v : Word) (s : State) : (writeStatus v s).ie = s.ie := rfl
@[simp] theorem writeStatus_txLen (v : Word) (s : State) : (writeStatus v s).txLen = s.txLen := rfl
@[simp] theorem writeStatus_txIndex (v : Word) (s : State) : (writeStatus v s).txIndex = s.txIndex := rfl
@[simp] theorem writeStatus_rxLen (v : Word) (s : State) : (writeStatus v s).rxLen = s.rxLen := rfl
@[simp] theorem writeStatus_rxIndex (v : Word) (s : State) : (writeStatus v s).rxIndex = s.rxIndex := rfl
@[simp] theorem writeStatus_attempts (v : Word) (s : State) : (writeStatus v s).attempts = s.attempts := rfl
@[simp] theorem writeStatus_irrCount (v : Word) (s : State) : (writeStatus v s).irrCount = s.irrCount := rfl
@[simp] theorem writeStatus_rxPos (v : Word) (s : State) : (writeStatus v s).rxPos = s.rxPos := rfl
@[simp] theorem writeStatus_txPos (v : Word) (s : State) : (writeStatus v s).txPos = s.txPos := rfl
@[simp] theorem writeStatus_rxst (v : Word) (s : State) : (writeStatus v s).rxst = s.rxst := rfl
@[simp] theorem writeStatus_sqst (v : Word) (s : State) : (writeStatus v s).sqst = s.sqst := rfl
@[simp] theorem writeStatus_rxXor (v : Word) (s : State) : (writeStatus v s).rxXor = s.rxXor := rfl
@[simp] theorem writeStatus_txXor (v : Word) (s : State) : (writeStatus v s).txXor = s.txXor := rfl
@[simp] theorem writeStatus_lcause (v : Word) (s : State) : (writeStatus v s).lcause = s.lcause := rfl
@[simp] theorem writeStatus_txBuf (v : Word) (s : State) : (writeStatus v s).txBuf = s.txBuf := rfl
@[simp] theorem writeStatus_rxBuf (v : Word) (s : State) : (writeStatus v s).rxBuf = s.rxBuf := rfl
@[simp] theorem writeStatus_inReset (v : Word) (s : State) : (writeStatus v s).inReset = s.inReset := rfl
@[simp] theorem writeStatus_txEpoch (v : Word) (s : State) : (writeStatus v s).txEpoch = s.txEpoch := rfl
@[simp] theorem writeStatus_draws (v : Word) (s : State) : (writeStatus v s).draws = s.draws := rfl
@[simp] theorem writeStatus_resp (v : Word) (s : State) : (writeStatus v s).resp = s.resp := rfl
@[simp] theorem writeStatus_agenda (v : Word) (s : State) : (writeStatus v s).agenda = s.agenda := rfl
@[simp] theorem writeStatus_rxQ (v : Word) (s : State) : (writeStatus v s).rxQ = s.rxQ := rfl
@[simp] theorem writeStatus_sent (v : Word) (s : State) : (writeStatus v s).sent = s.sent := rfl

/-! a stored CONFIG -/

@[simp] theorem writeConfig_busy (v : Word) (s : State) : (writeConfig v s).busy = s.busy := rfl
@[simp] theorem writeConfig_done (v : Word) (s : State) : (writeConfig v s).done = s.done := rfl
@[simp] theorem writeConfig_cmdErr (v : Word) (s : State) : (writeConfig v s).cmdErr = s.cmdErr := rfl
@[simp] theorem writeConfig_result (v : Word) (s : State) : (writeConfig v s).result = s.result := rfl
@[simp] theorem writeConfig_cause (v : Word) (s : State) : (writeConfig v s).cause = s.cause := rfl
@[simp] theorem writeConfig_op (v : Word) (s : State) : (writeConfig v s).op = s.op := rfl
@[simp] theorem writeConfig_maxAttempts (v : Word) (s : State) : (writeConfig v s).maxAttempts = v.extractLsb' 0 8 := rfl
@[simp] theorem writeConfig_irrBound (v : Word) (s : State) : (writeConfig v s).irrBound = v.extractLsb' 8 8 := rfl
@[simp] theorem writeConfig_ie (v : Word) (s : State) : (writeConfig v s).ie = v.getLsbD 16 := rfl
@[simp] theorem writeConfig_txLen (v : Word) (s : State) : (writeConfig v s).txLen = s.txLen := rfl
@[simp] theorem writeConfig_txIndex (v : Word) (s : State) : (writeConfig v s).txIndex = s.txIndex := rfl
@[simp] theorem writeConfig_rxLen (v : Word) (s : State) : (writeConfig v s).rxLen = s.rxLen := rfl
@[simp] theorem writeConfig_rxIndex (v : Word) (s : State) : (writeConfig v s).rxIndex = s.rxIndex := rfl
@[simp] theorem writeConfig_attempts (v : Word) (s : State) : (writeConfig v s).attempts = s.attempts := rfl
@[simp] theorem writeConfig_irrCount (v : Word) (s : State) : (writeConfig v s).irrCount = s.irrCount := rfl
@[simp] theorem writeConfig_rxPos (v : Word) (s : State) : (writeConfig v s).rxPos = s.rxPos := rfl
@[simp] theorem writeConfig_txPos (v : Word) (s : State) : (writeConfig v s).txPos = s.txPos := rfl
@[simp] theorem writeConfig_rxst (v : Word) (s : State) : (writeConfig v s).rxst = s.rxst := rfl
@[simp] theorem writeConfig_sqst (v : Word) (s : State) : (writeConfig v s).sqst = s.sqst := rfl
@[simp] theorem writeConfig_rxXor (v : Word) (s : State) : (writeConfig v s).rxXor = s.rxXor := rfl
@[simp] theorem writeConfig_txXor (v : Word) (s : State) : (writeConfig v s).txXor = s.txXor := rfl
@[simp] theorem writeConfig_lcause (v : Word) (s : State) : (writeConfig v s).lcause = s.lcause := rfl
@[simp] theorem writeConfig_txBuf (v : Word) (s : State) : (writeConfig v s).txBuf = s.txBuf := rfl
@[simp] theorem writeConfig_rxBuf (v : Word) (s : State) : (writeConfig v s).rxBuf = s.rxBuf := rfl
@[simp] theorem writeConfig_inReset (v : Word) (s : State) : (writeConfig v s).inReset = s.inReset := rfl
@[simp] theorem writeConfig_txEpoch (v : Word) (s : State) : (writeConfig v s).txEpoch = s.txEpoch := rfl
@[simp] theorem writeConfig_draws (v : Word) (s : State) : (writeConfig v s).draws = s.draws := rfl
@[simp] theorem writeConfig_resp (v : Word) (s : State) : (writeConfig v s).resp = s.resp := rfl
@[simp] theorem writeConfig_agenda (v : Word) (s : State) : (writeConfig v s).agenda = s.agenda := rfl
@[simp] theorem writeConfig_rxQ (v : Word) (s : State) : (writeConfig v s).rxQ = s.rxQ := rfl
@[simp] theorem writeConfig_sent (v : Word) (s : State) : (writeConfig v s).sent = s.sent := rfl

/-! a stored TX_LEN -/

@[simp] theorem writeTxLen_busy (v : Word) (s : State) : (writeTxLen v s).busy = s.busy := rfl
@[simp] theorem writeTxLen_done (v : Word) (s : State) : (writeTxLen v s).done = s.done := rfl
@[simp] theorem writeTxLen_cmdErr (v : Word) (s : State) : (writeTxLen v s).cmdErr = s.cmdErr := rfl
@[simp] theorem writeTxLen_result (v : Word) (s : State) : (writeTxLen v s).result = s.result := rfl
@[simp] theorem writeTxLen_cause (v : Word) (s : State) : (writeTxLen v s).cause = s.cause := rfl
@[simp] theorem writeTxLen_op (v : Word) (s : State) : (writeTxLen v s).op = s.op := rfl
@[simp] theorem writeTxLen_maxAttempts (v : Word) (s : State) : (writeTxLen v s).maxAttempts = s.maxAttempts := rfl
@[simp] theorem writeTxLen_irrBound (v : Word) (s : State) : (writeTxLen v s).irrBound = s.irrBound := rfl
@[simp] theorem writeTxLen_ie (v : Word) (s : State) : (writeTxLen v s).ie = s.ie := rfl
@[simp] theorem writeTxLen_txLen (v : Word) (s : State) : (writeTxLen v s).txLen = v.extractLsb' 0 16 := rfl
@[simp] theorem writeTxLen_txIndex (v : Word) (s : State) : (writeTxLen v s).txIndex = s.txIndex := rfl
@[simp] theorem writeTxLen_rxLen (v : Word) (s : State) : (writeTxLen v s).rxLen = s.rxLen := rfl
@[simp] theorem writeTxLen_rxIndex (v : Word) (s : State) : (writeTxLen v s).rxIndex = s.rxIndex := rfl
@[simp] theorem writeTxLen_attempts (v : Word) (s : State) : (writeTxLen v s).attempts = s.attempts := rfl
@[simp] theorem writeTxLen_irrCount (v : Word) (s : State) : (writeTxLen v s).irrCount = s.irrCount := rfl
@[simp] theorem writeTxLen_rxPos (v : Word) (s : State) : (writeTxLen v s).rxPos = s.rxPos := rfl
@[simp] theorem writeTxLen_txPos (v : Word) (s : State) : (writeTxLen v s).txPos = s.txPos := rfl
@[simp] theorem writeTxLen_rxst (v : Word) (s : State) : (writeTxLen v s).rxst = s.rxst := rfl
@[simp] theorem writeTxLen_sqst (v : Word) (s : State) : (writeTxLen v s).sqst = s.sqst := rfl
@[simp] theorem writeTxLen_rxXor (v : Word) (s : State) : (writeTxLen v s).rxXor = s.rxXor := rfl
@[simp] theorem writeTxLen_txXor (v : Word) (s : State) : (writeTxLen v s).txXor = s.txXor := rfl
@[simp] theorem writeTxLen_lcause (v : Word) (s : State) : (writeTxLen v s).lcause = s.lcause := rfl
@[simp] theorem writeTxLen_txBuf (v : Word) (s : State) : (writeTxLen v s).txBuf = s.txBuf := rfl
@[simp] theorem writeTxLen_rxBuf (v : Word) (s : State) : (writeTxLen v s).rxBuf = s.rxBuf := rfl
@[simp] theorem writeTxLen_inReset (v : Word) (s : State) : (writeTxLen v s).inReset = s.inReset := rfl
@[simp] theorem writeTxLen_txEpoch (v : Word) (s : State) : (writeTxLen v s).txEpoch = s.txEpoch := rfl
@[simp] theorem writeTxLen_draws (v : Word) (s : State) : (writeTxLen v s).draws = s.draws := rfl
@[simp] theorem writeTxLen_resp (v : Word) (s : State) : (writeTxLen v s).resp = s.resp := rfl
@[simp] theorem writeTxLen_agenda (v : Word) (s : State) : (writeTxLen v s).agenda = s.agenda := rfl
@[simp] theorem writeTxLen_rxQ (v : Word) (s : State) : (writeTxLen v s).rxQ = s.rxQ := rfl
@[simp] theorem writeTxLen_sent (v : Word) (s : State) : (writeTxLen v s).sent = s.sent := rfl

/-! a stored TX_INDEX -/

@[simp] theorem writeTxIndex_busy (v : Word) (s : State) : (writeTxIndex v s).busy = s.busy := rfl
@[simp] theorem writeTxIndex_done (v : Word) (s : State) : (writeTxIndex v s).done = s.done := rfl
@[simp] theorem writeTxIndex_cmdErr (v : Word) (s : State) : (writeTxIndex v s).cmdErr = s.cmdErr := rfl
@[simp] theorem writeTxIndex_result (v : Word) (s : State) : (writeTxIndex v s).result = s.result := rfl
@[simp] theorem writeTxIndex_cause (v : Word) (s : State) : (writeTxIndex v s).cause = s.cause := rfl
@[simp] theorem writeTxIndex_op (v : Word) (s : State) : (writeTxIndex v s).op = s.op := rfl
@[simp] theorem writeTxIndex_maxAttempts (v : Word) (s : State) : (writeTxIndex v s).maxAttempts = s.maxAttempts := rfl
@[simp] theorem writeTxIndex_irrBound (v : Word) (s : State) : (writeTxIndex v s).irrBound = s.irrBound := rfl
@[simp] theorem writeTxIndex_ie (v : Word) (s : State) : (writeTxIndex v s).ie = s.ie := rfl
@[simp] theorem writeTxIndex_txLen (v : Word) (s : State) : (writeTxIndex v s).txLen = s.txLen := rfl
@[simp] theorem writeTxIndex_txIndex (v : Word) (s : State) : (writeTxIndex v s).txIndex = v.extractLsb' 0 16 := rfl
@[simp] theorem writeTxIndex_rxLen (v : Word) (s : State) : (writeTxIndex v s).rxLen = s.rxLen := rfl
@[simp] theorem writeTxIndex_rxIndex (v : Word) (s : State) : (writeTxIndex v s).rxIndex = s.rxIndex := rfl
@[simp] theorem writeTxIndex_attempts (v : Word) (s : State) : (writeTxIndex v s).attempts = s.attempts := rfl
@[simp] theorem writeTxIndex_irrCount (v : Word) (s : State) : (writeTxIndex v s).irrCount = s.irrCount := rfl
@[simp] theorem writeTxIndex_rxPos (v : Word) (s : State) : (writeTxIndex v s).rxPos = s.rxPos := rfl
@[simp] theorem writeTxIndex_txPos (v : Word) (s : State) : (writeTxIndex v s).txPos = s.txPos := rfl
@[simp] theorem writeTxIndex_rxst (v : Word) (s : State) : (writeTxIndex v s).rxst = s.rxst := rfl
@[simp] theorem writeTxIndex_sqst (v : Word) (s : State) : (writeTxIndex v s).sqst = s.sqst := rfl
@[simp] theorem writeTxIndex_rxXor (v : Word) (s : State) : (writeTxIndex v s).rxXor = s.rxXor := rfl
@[simp] theorem writeTxIndex_txXor (v : Word) (s : State) : (writeTxIndex v s).txXor = s.txXor := rfl
@[simp] theorem writeTxIndex_lcause (v : Word) (s : State) : (writeTxIndex v s).lcause = s.lcause := rfl
@[simp] theorem writeTxIndex_txBuf (v : Word) (s : State) : (writeTxIndex v s).txBuf = s.txBuf := rfl
@[simp] theorem writeTxIndex_rxBuf (v : Word) (s : State) : (writeTxIndex v s).rxBuf = s.rxBuf := rfl
@[simp] theorem writeTxIndex_inReset (v : Word) (s : State) : (writeTxIndex v s).inReset = s.inReset := rfl
@[simp] theorem writeTxIndex_txEpoch (v : Word) (s : State) : (writeTxIndex v s).txEpoch = s.txEpoch := rfl
@[simp] theorem writeTxIndex_draws (v : Word) (s : State) : (writeTxIndex v s).draws = s.draws := rfl
@[simp] theorem writeTxIndex_resp (v : Word) (s : State) : (writeTxIndex v s).resp = s.resp := rfl
@[simp] theorem writeTxIndex_agenda (v : Word) (s : State) : (writeTxIndex v s).agenda = s.agenda := rfl
@[simp] theorem writeTxIndex_rxQ (v : Word) (s : State) : (writeTxIndex v s).rxQ = s.rxQ := rfl
@[simp] theorem writeTxIndex_sent (v : Word) (s : State) : (writeTxIndex v s).sent = s.sent := rfl

/-! a stored TX_DATA -/

@[simp] theorem writeTxData_busy (v : Word) (s : State) : (writeTxData v s).busy = s.busy := rfl
@[simp] theorem writeTxData_done (v : Word) (s : State) : (writeTxData v s).done = s.done := rfl
@[simp] theorem writeTxData_cmdErr (v : Word) (s : State) : (writeTxData v s).cmdErr = s.cmdErr := rfl
@[simp] theorem writeTxData_result (v : Word) (s : State) : (writeTxData v s).result = s.result := rfl
@[simp] theorem writeTxData_cause (v : Word) (s : State) : (writeTxData v s).cause = s.cause := rfl
@[simp] theorem writeTxData_op (v : Word) (s : State) : (writeTxData v s).op = s.op := rfl
@[simp] theorem writeTxData_maxAttempts (v : Word) (s : State) : (writeTxData v s).maxAttempts = s.maxAttempts := rfl
@[simp] theorem writeTxData_irrBound (v : Word) (s : State) : (writeTxData v s).irrBound = s.irrBound := rfl
@[simp] theorem writeTxData_ie (v : Word) (s : State) : (writeTxData v s).ie = s.ie := rfl
@[simp] theorem writeTxData_txLen (v : Word) (s : State) : (writeTxData v s).txLen = s.txLen := rfl
@[simp] theorem writeTxData_txIndex (v : Word) (s : State) : (writeTxData v s).txIndex = s.txIndex + 1 := rfl
@[simp] theorem writeTxData_rxLen (v : Word) (s : State) : (writeTxData v s).rxLen = s.rxLen := rfl
@[simp] theorem writeTxData_rxIndex (v : Word) (s : State) : (writeTxData v s).rxIndex = s.rxIndex := rfl
@[simp] theorem writeTxData_attempts (v : Word) (s : State) : (writeTxData v s).attempts = s.attempts := rfl
@[simp] theorem writeTxData_irrCount (v : Word) (s : State) : (writeTxData v s).irrCount = s.irrCount := rfl
@[simp] theorem writeTxData_rxPos (v : Word) (s : State) : (writeTxData v s).rxPos = s.rxPos := rfl
@[simp] theorem writeTxData_txPos (v : Word) (s : State) : (writeTxData v s).txPos = s.txPos := rfl
@[simp] theorem writeTxData_rxst (v : Word) (s : State) : (writeTxData v s).rxst = s.rxst := rfl
@[simp] theorem writeTxData_sqst (v : Word) (s : State) : (writeTxData v s).sqst = s.sqst := rfl
@[simp] theorem writeTxData_rxXor (v : Word) (s : State) : (writeTxData v s).rxXor = s.rxXor := rfl
@[simp] theorem writeTxData_txXor (v : Word) (s : State) : (writeTxData v s).txXor = s.txXor := rfl
@[simp] theorem writeTxData_lcause (v : Word) (s : State) : (writeTxData v s).lcause = s.lcause := rfl
@[simp] theorem writeTxData_txBuf (v : Word) (s : State) :
    (writeTxData v s).txBuf = memWrite s.txBuf s.txIndex.toNat (v.extractLsb' 0 8) := rfl
@[simp] theorem writeTxData_rxBuf (v : Word) (s : State) : (writeTxData v s).rxBuf = s.rxBuf := rfl
@[simp] theorem writeTxData_inReset (v : Word) (s : State) : (writeTxData v s).inReset = s.inReset := rfl
@[simp] theorem writeTxData_txEpoch (v : Word) (s : State) : (writeTxData v s).txEpoch = s.txEpoch := rfl
@[simp] theorem writeTxData_draws (v : Word) (s : State) : (writeTxData v s).draws = s.draws := rfl
@[simp] theorem writeTxData_resp (v : Word) (s : State) : (writeTxData v s).resp = s.resp := rfl
@[simp] theorem writeTxData_agenda (v : Word) (s : State) : (writeTxData v s).agenda = s.agenda := rfl
@[simp] theorem writeTxData_rxQ (v : Word) (s : State) : (writeTxData v s).rxQ = s.rxQ := rfl
@[simp] theorem writeTxData_sent (v : Word) (s : State) : (writeTxData v s).sent = s.sent := rfl

/-! a stored RX_INDEX -/

@[simp] theorem writeRxIndex_busy (v : Word) (s : State) : (writeRxIndex v s).busy = s.busy := rfl
@[simp] theorem writeRxIndex_done (v : Word) (s : State) : (writeRxIndex v s).done = s.done := rfl
@[simp] theorem writeRxIndex_cmdErr (v : Word) (s : State) : (writeRxIndex v s).cmdErr = s.cmdErr := rfl
@[simp] theorem writeRxIndex_result (v : Word) (s : State) : (writeRxIndex v s).result = s.result := rfl
@[simp] theorem writeRxIndex_cause (v : Word) (s : State) : (writeRxIndex v s).cause = s.cause := rfl
@[simp] theorem writeRxIndex_op (v : Word) (s : State) : (writeRxIndex v s).op = s.op := rfl
@[simp] theorem writeRxIndex_maxAttempts (v : Word) (s : State) : (writeRxIndex v s).maxAttempts = s.maxAttempts := rfl
@[simp] theorem writeRxIndex_irrBound (v : Word) (s : State) : (writeRxIndex v s).irrBound = s.irrBound := rfl
@[simp] theorem writeRxIndex_ie (v : Word) (s : State) : (writeRxIndex v s).ie = s.ie := rfl
@[simp] theorem writeRxIndex_txLen (v : Word) (s : State) : (writeRxIndex v s).txLen = s.txLen := rfl
@[simp] theorem writeRxIndex_txIndex (v : Word) (s : State) : (writeRxIndex v s).txIndex = s.txIndex := rfl
@[simp] theorem writeRxIndex_rxLen (v : Word) (s : State) : (writeRxIndex v s).rxLen = s.rxLen := rfl
@[simp] theorem writeRxIndex_rxIndex (v : Word) (s : State) : (writeRxIndex v s).rxIndex = v.extractLsb' 0 17 := rfl
@[simp] theorem writeRxIndex_attempts (v : Word) (s : State) : (writeRxIndex v s).attempts = s.attempts := rfl
@[simp] theorem writeRxIndex_irrCount (v : Word) (s : State) : (writeRxIndex v s).irrCount = s.irrCount := rfl
@[simp] theorem writeRxIndex_rxPos (v : Word) (s : State) : (writeRxIndex v s).rxPos = s.rxPos := rfl
@[simp] theorem writeRxIndex_txPos (v : Word) (s : State) : (writeRxIndex v s).txPos = s.txPos := rfl
@[simp] theorem writeRxIndex_rxst (v : Word) (s : State) : (writeRxIndex v s).rxst = s.rxst := rfl
@[simp] theorem writeRxIndex_sqst (v : Word) (s : State) : (writeRxIndex v s).sqst = s.sqst := rfl
@[simp] theorem writeRxIndex_rxXor (v : Word) (s : State) : (writeRxIndex v s).rxXor = s.rxXor := rfl
@[simp] theorem writeRxIndex_txXor (v : Word) (s : State) : (writeRxIndex v s).txXor = s.txXor := rfl
@[simp] theorem writeRxIndex_lcause (v : Word) (s : State) : (writeRxIndex v s).lcause = s.lcause := rfl
@[simp] theorem writeRxIndex_txBuf (v : Word) (s : State) : (writeRxIndex v s).txBuf = s.txBuf := rfl
@[simp] theorem writeRxIndex_rxBuf (v : Word) (s : State) : (writeRxIndex v s).rxBuf = s.rxBuf := rfl
@[simp] theorem writeRxIndex_inReset (v : Word) (s : State) : (writeRxIndex v s).inReset = s.inReset := rfl
@[simp] theorem writeRxIndex_txEpoch (v : Word) (s : State) : (writeRxIndex v s).txEpoch = s.txEpoch := rfl
@[simp] theorem writeRxIndex_draws (v : Word) (s : State) : (writeRxIndex v s).draws = s.draws := rfl
@[simp] theorem writeRxIndex_resp (v : Word) (s : State) : (writeRxIndex v s).resp = s.resp := rfl
@[simp] theorem writeRxIndex_agenda (v : Word) (s : State) : (writeRxIndex v s).agenda = s.agenda := rfl
@[simp] theorem writeRxIndex_rxQ (v : Word) (s : State) : (writeRxIndex v s).rxQ = s.rxQ := rfl
@[simp] theorem writeRxIndex_sent (v : Word) (s : State) : (writeRxIndex v s).sent = s.sent := rfl

end Sys2Proof.Machine
end

