-- ==== Sys2Proof/Laws/Memory.lean ====
section
/-! SUPPORT. The buffers: read after write, the canonical form, and what the running XORs depend on. -/

namespace Sys2Proof.Machine

/-- A read at the index written gives the byte written. -/
@[simp] theorem memRead_memWrite_same (m : Memory) (a : Nat) (v : Byte) : memRead (memWrite m a v) a = some v := by
  induction m with
  | nil => simp [memWrite, memRead]
  | cons c m ih =>
    obtain ⟨k, w⟩ := c
    unfold memWrite
    split
    · simp [memRead]
    · split
      · simp [memRead]
      · rename_i _ h
        have hk : ¬ k = a := fun e => h e.symm
        simpa [memRead, hk] using ih

/-- A read at another index gives what it gave. -/
theorem memRead_memWrite_other (m : Memory) {a b : Nat} (v : Byte) (h : b ≠ a) :
    memRead (memWrite m a v) b = memRead m b := by
  induction m with
  | nil => simp [memWrite, memRead, Ne.symm h]
  | cons c m ih =>
    obtain ⟨k, w⟩ := c
    unfold memWrite
    split
    · simp [memRead, Ne.symm h]
    · split
      · rename_i _ e
        simp [memRead, Ne.symm h, e ▸ Ne.symm h]
      · by_cases hk : k = b
        · simp [memRead, hk]
        · simp [memRead, hk, ih]

/-- An entry of a written memory is the one written or an old one. -/
theorem mem_memWrite {m : Memory} {a : Nat} {v : Byte} {c : Host.Cell} (h : c ∈ memWrite m a v) :
    c.1 = a ∨ c ∈ m := by
  induction m with
  | nil => simp [memWrite] at h; simp [h]
  | cons d m ih =>
    obtain ⟨k, w⟩ := d
    unfold memWrite at h
    split at h
    · rcases List.mem_cons.1 h with rfl | h'
      · exact .inl rfl
      · exact .inr h'
    · split at h
      · rcases List.mem_cons.1 h with rfl | h'
        · exact .inl rfl
        · exact .inr (List.mem_cons_of_mem _ h')
      · rcases List.mem_cons.1 h with rfl | h'
        · exact .inr (List.mem_cons_self ..)
        · rcases ih h' with e | e
          · exact .inl e
          · exact .inr (List.mem_cons_of_mem _ e)

/-- A write inside the memory keeps the canonical form. -/
theorem wf_memWrite {size : Nat} {m : Memory} {a : Nat} {v : Byte} (hm : Memory.wf size m) (ha : a < size) :
    Memory.wf size (memWrite m a v) := by
  refine ⟨?_, fun c hc => ?_⟩
  · have hp := hm.1
    clear hm
    induction m with
    | nil => simp [memWrite]
    | cons d m ih =>
      obtain ⟨k, w⟩ := d
      obtain ⟨h1, h2⟩ := List.pairwise_cons.1 hp
      unfold memWrite
      split
      · rename_i hlt
        refine List.pairwise_cons.2 ⟨fun c hc => ?_, hp⟩
        rcases List.mem_cons.1 hc with rfl | hc
        · exact hlt
        · exact Nat.lt_trans hlt (h1 c hc)
      · split
        · rename_i _ e
          subst e
          exact List.pairwise_cons.2 ⟨h1, h2⟩
        · refine List.pairwise_cons.2 ⟨fun c hc => ?_, ih h2⟩
          rcases mem_memWrite hc with e | hc
          · simp only [e]; omega
          · exact h1 c hc
  · rcases mem_memWrite hc with e | hc
    · exact e ▸ ha
    · exact hm.2 c hc

/-- The empty memory is in canonical form. -/
@[simp] theorem wf_empty (size : Nat) : Memory.wf size [] := by simp [Memory.wf]

/-- The reset state's buffers are in canonical form. -/
theorem reset_buffers_wf :
    Memory.wf Config.txBufSize State.reset.txBuf ∧ Memory.wf Config.rxBufSize State.reset.rxBuf :=
  ⟨wf_empty _, wf_empty _⟩

/-- TX_BUF's bytes depend on TX_BUF and its draw alone. -/
theorem txByte_congr {s t : State} (hb : t.txBuf = s.txBuf) (he : t.txEpoch = s.txEpoch) (i : Nat) :
    t.txByte i = s.txByte i := by
  simp [State.txByte, hb, he]

/-- RX_BUF's bytes depend on RX_BUF alone. -/
theorem rxByte_congr {s t : State} (hb : t.rxBuf = s.rxBuf) (i : Nat) : t.rxByte i = s.rxByte i := by
  simp [State.rxByte, hb]

/-- The XOR of TX_BUF's first bytes depends on those bytes alone. -/
theorem txXorTo_congr {s t : State} {n : Nat} (h : ∀ i < n, t.txByte i = s.txByte i) :
    t.txXorTo n = s.txXorTo n := by
  induction n with
  | zero => rfl
  | succ n ih =>
    simp only [State.txXorTo]
    rw [ih fun i hi => h i (Nat.lt_succ_of_lt hi), h n (Nat.lt_succ_self n)]

/-- The XOR of RX_BUF's first bytes depends on those bytes alone. -/
theorem rxXorTo_congr {s t : State} {n : Nat} (h : ∀ i < n, t.rxByte i = s.rxByte i) :
    t.rxXorTo n = s.rxXorTo n := by
  induction n with
  | zero => rfl
  | succ n ih =>
    simp only [State.rxXorTo]
    rw [ih fun i hi => h i (Nat.lt_succ_of_lt hi), h n (Nat.lt_succ_self n)]

/-- RX_BUF after one byte is stored. -/
theorem rxByte_of_write {s t : State} {a : Nat} {v : Byte} (hb : t.rxBuf = memWrite s.rxBuf a v) (i : Nat) :
    t.rxByte i = if i = a then v else s.rxByte i := by
  unfold State.rxByte
  rw [hb]
  split
  · rename_i h; subst h; simp
  · rename_i h; rw [memRead_memWrite_other _ _ h]

/-- TX_BUF after one byte is stored. -/
theorem txByte_of_write {s t : State} {a : Nat} {v : Byte} (hb : t.txBuf = memWrite s.txBuf a v)
    (he : t.txEpoch = s.txEpoch) (i : Nat) : t.txByte i = if i = a then v else s.txByte i := by
  unfold State.txByte
  rw [hb, he]
  split
  · rename_i h; subst h; simp
  · rename_i h; rw [memRead_memWrite_other _ _ h]

end Sys2Proof.Machine
end

