-- ==== Sys2Proof/Laws/Ops.lean ====
section
/-! SUPPORT. Once for each shared operation: everything it can do, and which fields it never changes. Proofs cite these
instead of unfolding the operations. -/

namespace Sys2Proof.Machine

/-! What each operation can do. -/

theorem startSend_cases (s : State) :
    (s.maxAttempts = 0 ∧ startSend s = complete .exceeded .none (clearCounts s)) ∨
    (s.maxAttempts ≠ 0 ∧ startSend s = startAttempt (clearCounts s)) := by
  unfold startSend
  by_cases h : s.maxAttempts = 0
  · exact .inl ⟨h, if_pos h⟩
  · exact .inr ⟨h, if_neg h⟩

theorem attemptFailed_cases (c : Code) (s : State) :
    (s.attempts < s.maxAttempts ∧ attemptFailed c s = startAttempt (recordCause c s)) ∨
    (¬ s.attempts < s.maxAttempts ∧ attemptFailed c s = complete .exceeded c (recordCause c s)) := by
  unfold attemptFailed
  by_cases h : s.attempts < s.maxAttempts
  · exact .inl ⟨h, if_pos h⟩
  · exact .inr ⟨h, if_neg h⟩

theorem irrelevant_cases (s : State) :
    (s.irrBound.toNat < (s.irrCount + 1).toNat ∧ irrelevant s = attemptFailed .irrelevant (countIrrelevant s)) ∨
    (¬ s.irrBound.toNat < (s.irrCount + 1).toNat ∧ irrelevant s = startReceive (countIrrelevant s)) := by
  unfold irrelevant
  by_cases h : s.irrBound.toNat < (s.irrCount + 1).toNat
  · exact .inl ⟨h, if_pos h⟩
  · exact .inr ⟨h, if_neg h⟩

/-- The good frame in RX_BUF names the frame being sent (43_sequencer.md R237, R242). -/
def State.targetMatches (s : State) : Prop := 2 ≤ s.rxLen.toNat ∧ s.rxByte 1 = s.txByte 0

theorem classifyAs_cases (i : Byte) (s : State) :
    ((i = Config.ackId ∧ s.targetMatches) ∧ classifyAs i s = complete .ok .none s) ∨
    ((i = Config.nackId ∧ s.targetMatches) ∧ classifyAs i s = attemptFailed .nack s) ∨
    (¬ ((i = Config.ackId ∨ i = Config.nackId) ∧ s.targetMatches) ∧ classifyAs i s = irrelevant s) := by
  unfold classifyAs State.targetMatches
  by_cases h : 2 ≤ s.rxLen.toNat ∧ s.rxByte 1 = s.txByte 0
  · by_cases h1 : i = Config.ackId
    · exact .inl ⟨⟨h1, h⟩, if_pos ⟨h1, h⟩⟩
    · by_cases h2 : i = Config.nackId
      · exact .inr (.inl ⟨⟨h2, h⟩, by rw [if_neg (fun e => h1 e.1), if_pos ⟨h2, h⟩]⟩)
      · exact .inr (.inr ⟨fun e => e.1.elim h1 h2, by rw [if_neg (fun e => h1 e.1), if_neg (fun e => h2 e.1)]⟩)
  · exact .inr (.inr ⟨fun e => h e.2, by rw [if_neg (fun e => h e.2), if_neg (fun e => h e.2)]⟩)

theorem endReceive_cases (r : Code) (s : State) :
    (s.op = .recv ∧ endReceive r s = complete r .none (stopPorts s)) ∨
    ((s.op = .send ∧ r = .ok) ∧ endReceive r s = classifyAs (s.rxByte 0) (stopPorts s)) ∨
    ((s.op = .send ∧ r ≠ .ok) ∧ endReceive r s = attemptFailed r (stopPorts s)) ∨
    ((s.op = .nop ∨ s.op = .xmit) ∧ endReceive r s = stopPorts s) := by
  unfold endReceive
  cases h : s.op
  · exact .inr (.inr (.inr ⟨.inl rfl, rfl⟩))
  · exact .inl ⟨rfl, rfl⟩
  · exact .inr (.inr (.inr ⟨.inr rfl, rfl⟩))
  · by_cases hr : r = .ok
    · exact .inr (.inl ⟨⟨rfl, hr⟩, if_pos hr⟩)
    · exact .inr (.inr (.inl ⟨⟨rfl, hr⟩, if_neg hr⟩))

theorem endTransmit_cases (r : Code) (s : State) :
    (s.op = .xmit ∧ endTransmit r s = complete r .none (stopEncoder s)) ∨
    ((s.op = .send ∧ r = .txErr) ∧ endTransmit r s = complete .txErr .none (stopEncoder s)) ∨
    ((s.op = .send ∧ r ≠ .txErr) ∧ endTransmit r s = startReceive (stopEncoder s)) ∨
    ((s.op = .nop ∨ s.op = .recv) ∧ endTransmit r s = stopEncoder s) := by
  unfold endTransmit
  cases h : s.op
  · exact .inr (.inr (.inr ⟨.inl rfl, rfl⟩))
  · exact .inr (.inr (.inr ⟨.inr rfl, rfl⟩))
  · exact .inl ⟨rfl, rfl⟩
  · by_cases hr : r = .txErr
    · exact .inr (.inl ⟨⟨rfl, hr⟩, if_pos hr⟩)
    · exact .inr (.inr (.inl ⟨⟨rfl, hr⟩, if_neg hr⟩))

/-- The verdict on a whole body (42_decoder.md R200). -/
def State.verdict (s : State) : Code :=
  if s.rxByte (s.rxLen.toNat + 1) ≠ Config.marker1 ∨ s.rxByte (s.rxLen.toNat + 2) ≠ Config.marker2 then .endMarker
  else if s.rxByte s.rxLen.toNat ≠ s.rxXor then .checksum
  else if s.rxLen.toNat = 0 then .zeroLen
  else .ok

theorem checkFrame_eq (s : State) : checkFrame s = endReceive s.verdict s := by
  unfold checkFrame State.verdict
  split
  · rfl
  · split
    · rfl
    · split <;> rfl

theorem verdict_cases (s : State) :
    s.verdict = .endMarker ∨ s.verdict = .checksum ∨ s.verdict = .zeroLen ∨ s.verdict = .ok := by
  unfold State.verdict
  split
  · simp
  · split
    · simp
    · split <;> simp

theorem issueCommand_cases (op : BitVec 4) (s : State) :
    (op = 0x0#4 ∧ issueCommand op s = s) ∨
    ((0x4#4 ≤ op ∨ (op ≠ 0x0#4 ∧ s.busy = true) ∨ ((op = 0x2#4 ∨ op = 0x3#4) ∧ s.txLen = 0)) ∧
      issueCommand op s = refuseWrite s) ∨
    ((op = 0x1#4 ∧ s.busy = false) ∧ issueCommand op s = startReceive (accept .recv s)) ∨
    ((op = 0x2#4 ∧ s.busy = false ∧ s.txLen ≠ 0) ∧ issueCommand op s = startTransmit (accept .xmit s)) ∨
    ((op = 0x3#4 ∧ s.busy = false ∧ s.txLen ≠ 0) ∧ issueCommand op s = startSend (accept .send s)) := by
  unfold issueCommand
  split
  · exact .inl ⟨by assumption, rfl⟩
  rename_i h0
  split
  · exact .inr (.inl ⟨.inl (by assumption), rfl⟩)
  rename_i h4
  split
  · exact .inr (.inl ⟨.inr (.inl ⟨h0, by assumption⟩), rfl⟩)
  rename_i hb
  have hb : s.busy = false := by simpa using hb
  split
  · exact .inr (.inl ⟨.inr (.inr (by assumption)), rfl⟩)
  rename_i hl
  split
  · exact .inr (.inr (.inl ⟨⟨by assumption, hb⟩, rfl⟩))
  rename_i h1
  split
  · rename_i h2
    exact .inr (.inr (.inr (.inl ⟨⟨h2, hb, fun e => hl ⟨.inl h2, e⟩⟩, rfl⟩)))
  · rename_i h2
    have key : ∀ x : BitVec 4, x ≠ 0x0#4 → ¬ 0x4#4 ≤ x → x ≠ 0x1#4 → x ≠ 0x2#4 → x = 0x3#4 := by decide
    have h3 : op = 0x3#4 := key op h0 h4 h1 h2
    exact .inr (.inr (.inr (.inr ⟨⟨h3, hb, fun e => hl ⟨.inr h3, e⟩⟩, rfl⟩)))

/-- Everything a body byte can do. -/
theorem takeBodyByte_cases (b : Byte) (s : State) :
    ((s.rxPos.toNat < Config.rxBufSize ∧ s.rxPos.toNat + 1 = s.rxLen.toNat + 3) ∧
      takeBodyByte b s = .next (endReceive (storeBodyByte b s).verdict (storeBodyByte b s))) ∨
    ((s.rxPos.toNat < Config.rxBufSize ∧ s.rxPos.toNat + 1 ≠ s.rxLen.toNat + 3) ∧
      takeBodyByte b s = .next (storeBodyByte b s)) ∨
    (¬ s.rxPos.toNat < Config.rxBufSize ∧ takeBodyByte b s = .fault .rxBufIndex) := by
  unfold takeBodyByte
  by_cases h : s.rxPos.toNat < Config.rxBufSize
  · by_cases hk : s.rxPos.toNat + 1 = s.rxLen.toNat + 3
    · exact .inl ⟨⟨h, hk⟩, by rw [if_pos h, if_pos hk, checkFrame_eq]⟩
    · exact .inr (.inl ⟨⟨h, hk⟩, by rw [if_pos h, if_neg hk]⟩)
  · exact .inr (.inr ⟨h, if_neg h⟩)

/-- Everything an event can do to a running receiver, by the receiver's state. -/
theorem takeEvent_cases (e : RxEvent) (s : State) :
    (s.rxst = .idle ∧ takeEvent e s = .next s) ∨
    (s.rxst ≠ .idle ∧ e = .eos ∧ takeEvent e s = .next (endReceive .eos s)) ∨
    (s.rxst ≠ .idle ∧ e = .rxErr ∧ takeEvent e s = .next (endReceive .rxErr s)) ∨
    (∃ b, e = .byte b ∧
      ((s.rxst = .seek1 ∧
          takeEvent e s = .next (setRxst (if b = Config.preamble1 then .seek2 else .seek1) s)) ∨
       (s.rxst = .seek2 ∧
          takeEvent e s = .next
            (setRxst (if b = Config.preamble2 then .lenH else if b = Config.preamble1 then .seek2 else .seek1) s)) ∨
       (s.rxst = .lenH ∧ takeEvent e s = .next (takeLengthHigh b s)) ∨
       (s.rxst = .lenL ∧ takeEvent e s = .next (takeLengthLow b s)) ∨
       (s.rxst = .body ∧ takeEvent e s = takeBodyByte b s))) := by
  cases e with
  | eos => by_cases h : s.rxst = .idle <;> cases hr : s.rxst <;> simp_all [takeEvent]
  | rxErr => by_cases h : s.rxst = .idle <;> cases hr : s.rxst <;> simp_all [takeEvent]
  | byte b => cases hr : s.rxst <;> simp [takeEvent, hr]

/-- Everything a sequence of offered bytes can do at its first byte. -/
theorem takeBytes_cons (b : Byte) (bs : List Byte) (s : State) :
    (s.takesRx = true ∧ ∃ t, takeEvent (.byte b) s = .next t ∧ takeBytes (b :: bs) s = takeBytes bs t) ∨
    (s.takesRx = true ∧ ∃ r, takeEvent (.byte b) s = .fault r ∧ takeBytes (b :: bs) s = .fault r) ∨
    (s.takesRx = true ∧ ∃ r, takeEvent (.byte b) s = .refused r ∧ takeBytes (b :: bs) s = .refused r) ∨
    (s.takesRx = false ∧ takeBytes (b :: bs) s = .next (setRxQ ((b :: bs).map .byte ++ s.rxQ) s)) := by
  cases h : s.takesRx with
  | true =>
    cases ht : takeEvent (.byte b) s with
    | next t => exact .inl ⟨rfl, t, rfl, by simp [takeBytes, h, ht]⟩
    | fault r => exact .inr (.inl ⟨rfl, r, rfl, by simp [takeBytes, h, ht]⟩)
    | refused r => exact .inr (.inr (.inl ⟨rfl, r, rfl, by simp [takeBytes, h, ht]⟩))
  | false => exact .inr (.inr (.inr ⟨rfl, by simp [takeBytes, h]⟩))

/-- Everything an answer can do to a running encoder. -/
theorem txAnswer_cases (ans : TxAnswer) (s : State) :
    ((ans = .accept ∧ s.txPos.toNat = s.txLen.toNat + 6) ∧ txAnswer ans s = endTransmit .ok (advanceTx s)) ∨
    ((ans = .accept ∧ s.txPos.toNat ≠ s.txLen.toNat + 6) ∧ txAnswer ans s = advanceTx s) ∨
    (ans = .error ∧ txAnswer ans s = endTransmit .txErr s) := by
  cases ans with
  | accept =>
    by_cases h : s.txPos.toNat = s.txLen.toNat + 6
    · exact .inl ⟨⟨rfl, h⟩, if_pos h⟩
    · exact .inr (.inl ⟨⟨rfl, h⟩, if_neg h⟩)
  | error => exact .inr (.inr ⟨rfl, rfl⟩)

/-- Everything an admitted read can do. -/
theorem hostRead_cases (v : Word) (s : State) :
    (s.inReset = true ∧ hostRead v s = .next (respond (.data (Config.resetWord s.draws)) (draw s))) ∨
    (s.inReset = false ∧ hostRead v s = .next (respond (.data v) s)) := by
  unfold hostRead
  cases h : s.inReset <;> simp

/-- Everything an admitted write can do. -/
theorem hostWrite_cases (f : State → State) (s : State) :
    (s.inReset = true ∧ hostWrite f s = .next (respond .done (scrambleTx s))) ∨
    (s.inReset = false ∧ hostWrite f s = .next (respond .done (f s))) := by
  unfold hostWrite
  cases h : s.inReset <;> simp

/-- Everything a write that a running operation refuses can do. -/
theorem unlessBusy_cases (f : State → State) (s : State) :
    (s.busy = true ∧ unlessBusy f s = refuseWrite s) ∨ (s.busy = false ∧ unlessBusy f s = f s) := by
  unfold unlessBusy
  cases h : s.busy <;> simp

/-- Everything a host access can do. -/
theorem hostTurn_cases (a : Access) (s : State) :
    (Config.windowSize ≤ a.off ∧ hostTurn a s = .next (respond .none s)) ∨
    ((a.off < Config.windowSize ∧ (a.off % 4 ≠ 0 ∨ a.width ≠ 4)) ∧ hostTurn a s = .next (respond .busError s)) ∨
    ((a.off < Config.windowSize ∧ a.off % 4 = 0 ∧ a.width = 4) ∧
      ∃ r : Reg, a.off = r.off ∧
        ((a.dir = .read ∧ hostTurn a s = exec (readInstr r) s) ∨
         (a.dir = .write ∧ hostTurn a s = exec (writeInstr a.data r) s))) := by
  unfold hostTurn
  split
  · exact .inl ⟨by assumption, rfl⟩
  rename_i h
  have h : a.off < Config.windowSize := Nat.lt_of_not_le h
  split
  · exact .inr (.inl ⟨⟨h, by assumption⟩, rfl⟩)
  rename_i hw
  have h4 : a.off % 4 = 0 := by omega
  refine .inr (.inr ⟨⟨h, h4, by omega⟩, ?_⟩)
  have : ∃ r, Reg.ofIndex (a.off / 4) = some r ∧ r.index = a.off / 4 := by
    have hlt : a.off / 4 < 16 := by simp only [Config.windowSize] at h; omega
    generalize a.off / 4 = n at hlt
    have : n = 0 ∨ n = 1 ∨ n = 2 ∨ n = 3 ∨ n = 4 ∨ n = 5 ∨ n = 6 ∨ n = 7 ∨ n = 8 ∨ n = 9 ∨ n = 10 ∨ n = 11 ∨
      n = 12 ∨ n = 13 ∨ n = 14 ∨ n = 15 := by omega
    rcases this with rfl | rfl | rfl | rfl | rfl | rfl | rfl | rfl | rfl | rfl | rfl | rfl | rfl | rfl | rfl | rfl <;>
      exact ⟨_, rfl, rfl⟩
  obtain ⟨r, hr, hi⟩ := this
  refine ⟨r, by simp only [Reg.off, hi]; omega, ?_⟩
  simp only [decodeAccess, h4, hr]
  cases a.dir
  · exact .inl ⟨rfl, rfl⟩
  · exact .inr ⟨rfl, rfl⟩

/-- A step takes the first turn of the agenda. -/
theorem step_cases (s : State) :
    (s.agenda = [] ∧ step s = .next s) ∨
    (∃ t rest, s.agenda = t :: rest ∧ step s = takeTurn t (setAgenda rest s)) := by
  unfold step nextTurn
  cases h : s.agenda with
  | nil => exact .inl ⟨rfl, rfl⟩
  | cons t rest => exact .inr ⟨t, rest, rfl, rfl⟩

/-! Fields no operation of the sequencer changes. -/

@[simp] theorem startSend_cmdErr (s : State) : (startSend s).cmdErr = s.cmdErr := by
  rcases startSend_cases s with h | h <;> simp [h.2]
@[simp] theorem startSend_op (s : State) : (startSend s).op = s.op := by
  rcases startSend_cases s with h | h <;> simp [h.2]
@[simp] theorem startSend_maxAttempts (s : State) : (startSend s).maxAttempts = s.maxAttempts := by
  rcases startSend_cases s with h | h <;> simp [h.2]
@[simp] theorem startSend_irrBound (s : State) : (startSend s).irrBound = s.irrBound := by
  rcases startSend_cases s with h | h <;> simp [h.2]
@[simp] theorem startSend_ie (s : State) : (startSend s).ie = s.ie := by
  rcases startSend_cases s with h | h <;> simp [h.2]
@[simp] theorem startSend_txLen (s : State) : (startSend s).txLen = s.txLen := by
  rcases startSend_cases s with h | h <;> simp [h.2]
@[simp] theorem startSend_txIndex (s : State) : (startSend s).txIndex = s.txIndex := by
  rcases startSend_cases s with h | h <;> simp [h.2]
@[simp] theorem startSend_rxLen (s : State) : (startSend s).rxLen = s.rxLen := by
  rcases startSend_cases s with h | h <;> simp [h.2]
@[simp] theorem startSend_rxIndex (s : State) : (startSend s).rxIndex = s.rxIndex := by
  rcases startSend_cases s with h | h <;> simp [h.2]
@[simp] theorem startSend_rxPos (s : State) : (startSend s).rxPos = s.rxPos := by
  rcases startSend_cases s with h | h <;> simp [h.2]
@[simp] theorem startSend_rxXor (s : State) : (startSend s).rxXor = s.rxXor := by
  rcases startSend_cases s with h | h <;> simp [h.2]
@[simp] theorem startSend_lcause (s : State) : (startSend s).lcause = s.lcause := by
  rcases startSend_cases s with h | h <;> simp [h.2]
@[simp] theorem startSend_txBuf (s : State) : (startSend s).txBuf = s.txBuf := by
  rcases startSend_cases s with h | h <;> simp [h.2]
@[simp] theorem startSend_rxBuf (s : State) : (startSend s).rxBuf = s.rxBuf := by
  rcases startSend_cases s with h | h <;> simp [h.2]
@[simp] theorem startSend_inReset (s : State) : (startSend s).inReset = s.inReset := by
  rcases startSend_cases s with h | h <;> simp [h.2]
@[simp] theorem startSend_txEpoch (s : State) : (startSend s).txEpoch = s.txEpoch := by
  rcases startSend_cases s with h | h <;> simp [h.2]
@[simp] theorem startSend_draws (s : State) : (startSend s).draws = s.draws := by
  rcases startSend_cases s with h | h <;> simp [h.2]
@[simp] theorem startSend_resp (s : State) : (startSend s).resp = s.resp := by
  rcases startSend_cases s with h | h <;> simp [h.2]
@[simp] theorem startSend_agenda (s : State) : (startSend s).agenda = s.agenda := by
  rcases startSend_cases s with h | h <;> simp [h.2]
@[simp] theorem startSend_rxQ (s : State) : (startSend s).rxQ = s.rxQ := by
  rcases startSend_cases s with h | h <;> simp [h.2]
@[simp] theorem startSend_sent (s : State) : (startSend s).sent = s.sent := by
  rcases startSend_cases s with h | h <;> simp [h.2]

@[simp] theorem attemptFailed_cmdErr (c : Code) (s : State) : (attemptFailed c s).cmdErr = s.cmdErr := by
  rcases attemptFailed_cases c s with h | h <;> simp [h.2]
@[simp] theorem attemptFailed_op (c : Code) (s : State) : (attemptFailed c s).op = s.op := by
  rcases attemptFailed_cases c s with h | h <;> simp [h.2]
@[simp] theorem attemptFailed_maxAttempts (c : Code) (s : State) : (attemptFailed c s).maxAttempts = s.maxAttempts := by
  rcases attemptFailed_cases c s with h | h <;> simp [h.2]
@[simp] theorem attemptFailed_irrBound (c : Code) (s : State) : (attemptFailed c s).irrBound = s.irrBound := by
  rcases attemptFailed_cases c s with h | h <;> simp [h.2]
@[simp] theorem attemptFailed_ie (c : Code) (s : State) : (attemptFailed c s).ie = s.ie := by
  rcases attemptFailed_cases c s with h | h <;> simp [h.2]
@[simp] theorem attemptFailed_txLen (c : Code) (s : State) : (attemptFailed c s).txLen = s.txLen := by
  rcases attemptFailed_cases c s with h | h <;> simp [h.2]
@[simp] theorem attemptFailed_txIndex (c : Code) (s : State) : (attemptFailed c s).txIndex = s.txIndex := by
  rcases attemptFailed_cases c s with h | h <;> simp [h.2]
@[simp] theorem attemptFailed_rxLen (c : Code) (s : State) : (attemptFailed c s).rxLen = s.rxLen := by
  rcases attemptFailed_cases c s with h | h <;> simp [h.2]
@[simp] theorem attemptFailed_rxIndex (c : Code) (s : State) : (attemptFailed c s).rxIndex = s.rxIndex := by
  rcases attemptFailed_cases c s with h | h <;> simp [h.2]
@[simp] theorem attemptFailed_rxPos (c : Code) (s : State) : (attemptFailed c s).rxPos = s.rxPos := by
  rcases attemptFailed_cases c s with h | h <;> simp [h.2]
@[simp] theorem attemptFailed_rxXor (c : Code) (s : State) : (attemptFailed c s).rxXor = s.rxXor := by
  rcases attemptFailed_cases c s with h | h <;> simp [h.2]
@[simp] theorem attemptFailed_txBuf (c : Code) (s : State) : (attemptFailed c s).txBuf = s.txBuf := by
  rcases attemptFailed_cases c s with h | h <;> simp [h.2]
@[simp] theorem attemptFailed_rxBuf (c : Code) (s : State) : (attemptFailed c s).rxBuf = s.rxBuf := by
  rcases attemptFailed_cases c s with h | h <;> simp [h.2]
@[simp] theorem attemptFailed_inReset (c : Code) (s : State) : (attemptFailed c s).inReset = s.inReset := by
  rcases attemptFailed_cases c s with h | h <;> simp [h.2]
@[simp] theorem attemptFailed_txEpoch (c : Code) (s : State) : (attemptFailed c s).txEpoch = s.txEpoch := by
  rcases attemptFailed_cases c s with h | h <;> simp [h.2]
@[simp] theorem attemptFailed_draws (c : Code) (s : State) : (attemptFailed c s).draws = s.draws := by
  rcases attemptFailed_cases c s with h | h <;> simp [h.2]
@[simp] theorem attemptFailed_resp (c : Code) (s : State) : (attemptFailed c s).resp = s.resp := by
  rcases attemptFailed_cases c s with h | h <;> simp [h.2]
@[simp] theorem attemptFailed_agenda (c : Code) (s : State) : (attemptFailed c s).agenda = s.agenda := by
  rcases attemptFailed_cases c s with h | h <;> simp [h.2]
@[simp] theorem attemptFailed_rxQ (c : Code) (s : State) : (attemptFailed c s).rxQ = s.rxQ := by
  rcases attemptFailed_cases c s with h | h <;> simp [h.2]
@[simp] theorem attemptFailed_sent (c : Code) (s : State) : (attemptFailed c s).sent = s.sent := by
  rcases attemptFailed_cases c s with h | h <;> simp [h.2]

@[simp] theorem irrelevant_cmdErr (s : State) : (irrelevant s).cmdErr = s.cmdErr := by
  rcases irrelevant_cases s with h | h <;> simp [h.2]
@[simp] theorem irrelevant_op (s : State) : (irrelevant s).op = s.op := by
  rcases irrelevant_cases s with h | h <;> simp [h.2]
@[simp] theorem irrelevant_maxAttempts (s : State) : (irrelevant s).maxAttempts = s.maxAttempts := by
  rcases irrelevant_cases s with h | h <;> simp [h.2]
@[simp] theorem irrelevant_irrBound (s : State) : (irrelevant s).irrBound = s.irrBound := by
  rcases irrelevant_cases s with h | h <;> simp [h.2]
@[simp] theorem irrelevant_ie (s : State) : (irrelevant s).ie = s.ie := by
  rcases irrelevant_cases s with h | h <;> simp [h.2]
@[simp] theorem irrelevant_txLen (s : State) : (irrelevant s).txLen = s.txLen := by
  rcases irrelevant_cases s with h | h <;> simp [h.2]
@[simp] theorem irrelevant_txIndex (s : State) : (irrelevant s).txIndex = s.txIndex := by
  rcases irrelevant_cases s with h | h <;> simp [h.2]
@[simp] theorem irrelevant_rxLen (s : State) : (irrelevant s).rxLen = s.rxLen := by
  rcases irrelevant_cases s with h | h <;> simp [h.2]
@[simp] theorem irrelevant_rxIndex (s : State) : (irrelevant s).rxIndex = s.rxIndex := by
  rcases irrelevant_cases s with h | h <;> simp [h.2]
@[simp] theorem irrelevant_txBuf (s : State) : (irrelevant s).txBuf = s.txBuf := by
  rcases irrelevant_cases s with h | h <;> simp [h.2]
@[simp] theorem irrelevant_rxBuf (s : State) : (irrelevant s).rxBuf = s.rxBuf := by
  rcases irrelevant_cases s with h | h <;> simp [h.2]
@[simp] theorem irrelevant_inReset (s : State) : (irrelevant s).inReset = s.inReset := by
  rcases irrelevant_cases s with h | h <;> simp [h.2]
@[simp] theorem irrelevant_txEpoch (s : State) : (irrelevant s).txEpoch = s.txEpoch := by
  rcases irrelevant_cases s with h | h <;> simp [h.2]
@[simp] theorem irrelevant_draws (s : State) : (irrelevant s).draws = s.draws := by
  rcases irrelevant_cases s with h | h <;> simp [h.2]
@[simp] theorem irrelevant_resp (s : State) : (irrelevant s).resp = s.resp := by
  rcases irrelevant_cases s with h | h <;> simp [h.2]
@[simp] theorem irrelevant_agenda (s : State) : (irrelevant s).agenda = s.agenda := by
  rcases irrelevant_cases s with h | h <;> simp [h.2]
@[simp] theorem irrelevant_rxQ (s : State) : (irrelevant s).rxQ = s.rxQ := by
  rcases irrelevant_cases s with h | h <;> simp [h.2]
@[simp] theorem irrelevant_sent (s : State) : (irrelevant s).sent = s.sent := by
  rcases irrelevant_cases s with h | h <;> simp [h.2]

@[simp] theorem classifyAs_cmdErr (i : Byte) (s : State) : (classifyAs i s).cmdErr = s.cmdErr := by
  rcases classifyAs_cases i s with h | h | h <;> simp [h.2]
@[simp] theorem classifyAs_op (i : Byte) (s : State) : (classifyAs i s).op = s.op := by
  rcases classifyAs_cases i s with h | h | h <;> simp [h.2]
@[simp] theorem classifyAs_maxAttempts (i : Byte) (s : State) : (classifyAs i s).maxAttempts = s.maxAttempts := by
  rcases classifyAs_cases i s with h | h | h <;> simp [h.2]
@[simp] theorem classifyAs_irrBound (i : Byte) (s : State) : (classifyAs i s).irrBound = s.irrBound := by
  rcases classifyAs_cases i s with h | h | h <;> simp [h.2]
@[simp] theorem classifyAs_ie (i : Byte) (s : State) : (classifyAs i s).ie = s.ie := by
  rcases classifyAs_cases i s with h | h | h <;> simp [h.2]
@[simp] theorem classifyAs_txLen (i : Byte) (s : State) : (classifyAs i s).txLen = s.txLen := by
  rcases classifyAs_cases i s with h | h | h <;> simp [h.2]
@[simp] theorem classifyAs_txIndex (i : Byte) (s : State) : (classifyAs i s).txIndex = s.txIndex := by
  rcases classifyAs_cases i s with h | h | h <;> simp [h.2]
@[simp] theorem classifyAs_rxLen (i : Byte) (s : State) : (classifyAs i s).rxLen = s.rxLen := by
  rcases classifyAs_cases i s with h | h | h <;> simp [h.2]
@[simp] theorem classifyAs_rxIndex (i : Byte) (s : State) : (classifyAs i s).rxIndex = s.rxIndex := by
  rcases classifyAs_cases i s with h | h | h <;> simp [h.2]
@[simp] theorem classifyAs_txBuf (i : Byte) (s : State) : (classifyAs i s).txBuf = s.txBuf := by
  rcases classifyAs_cases i s with h | h | h <;> simp [h.2]
@[simp] theorem classifyAs_rxBuf (i : Byte) (s : State) : (classifyAs i s).rxBuf = s.rxBuf := by
  rcases classifyAs_cases i s with h | h | h <;> simp [h.2]
@[simp] theorem classifyAs_inReset (i : Byte) (s : State) : (classifyAs i s).inReset = s.inReset := by
  rcases classifyAs_cases i s with h | h | h <;> simp [h.2]
@[simp] theorem classifyAs_txEpoch (i : Byte) (s : State) : (classifyAs i s).txEpoch = s.txEpoch := by
  rcases classifyAs_cases i s with h | h | h <;> simp [h.2]
@[simp] theorem classifyAs_draws (i : Byte) (s : State) : (classifyAs i s).draws = s.draws := by
  rcases classifyAs_cases i s with h | h | h <;> simp [h.2]
@[simp] theorem classifyAs_resp (i : Byte) (s : State) : (classifyAs i s).resp = s.resp := by
  rcases classifyAs_cases i s with h | h | h <;> simp [h.2]
@[simp] theorem classifyAs_agenda (i : Byte) (s : State) : (classifyAs i s).agenda = s.agenda := by
  rcases classifyAs_cases i s with h | h | h <;> simp [h.2]
@[simp] theorem classifyAs_rxQ (i : Byte) (s : State) : (classifyAs i s).rxQ = s.rxQ := by
  rcases classifyAs_cases i s with h | h | h <;> simp [h.2]
@[simp] theorem classifyAs_sent (i : Byte) (s : State) : (classifyAs i s).sent = s.sent := by
  rcases classifyAs_cases i s with h | h | h <;> simp [h.2]

@[simp] theorem endReceive_cmdErr (r : Code) (s : State) : (endReceive r s).cmdErr = s.cmdErr := by
  rcases endReceive_cases r s with h | h | h | h <;> simp [h.2]
@[simp] theorem endReceive_op (r : Code) (s : State) : (endReceive r s).op = s.op := by
  rcases endReceive_cases r s with h | h | h | h <;> simp [h.2]
@[simp] theorem endReceive_maxAttempts (r : Code) (s : State) : (endReceive r s).maxAttempts = s.maxAttempts := by
  rcases endReceive_cases r s with h | h | h | h <;> simp [h.2]
@[simp] theorem endReceive_irrBound (r : Code) (s : State) : (endReceive r s).irrBound = s.irrBound := by
  rcases endReceive_cases r s with h | h | h | h <;> simp [h.2]
@[simp] theorem endReceive_ie (r : Code) (s : State) : (endReceive r s).ie = s.ie := by
  rcases endReceive_cases r s with h | h | h | h <;> simp [h.2]
@[simp] theorem endReceive_txLen (r : Code) (s : State) : (endReceive r s).txLen = s.txLen := by
  rcases endReceive_cases r s with h | h | h | h <;> simp [h.2]
@[simp] theorem endReceive_txIndex (r : Code) (s : State) : (endReceive r s).txIndex = s.txIndex := by
  rcases endReceive_cases r s with h | h | h | h <;> simp [h.2]
@[simp] theorem endReceive_rxLen (r : Code) (s : State) : (endReceive r s).rxLen = s.rxLen := by
  rcases endReceive_cases r s with h | h | h | h <;> simp [h.2]
@[simp] theorem endReceive_rxIndex (r : Code) (s : State) : (endReceive r s).rxIndex = s.rxIndex := by
  rcases endReceive_cases r s with h | h | h | h <;> simp [h.2]
@[simp] theorem endReceive_txBuf (r : Code) (s : State) : (endReceive r s).txBuf = s.txBuf := by
  rcases endReceive_cases r s with h | h | h | h <;> simp [h.2]
@[simp] theorem endReceive_rxBuf (r : Code) (s : State) : (endReceive r s).rxBuf = s.rxBuf := by
  rcases endReceive_cases r s with h | h | h | h <;> simp [h.2]
@[simp] theorem endReceive_inReset (r : Code) (s : State) : (endReceive r s).inReset = s.inReset := by
  rcases endReceive_cases r s with h | h | h | h <;> simp [h.2]
@[simp] theorem endReceive_txEpoch (r : Code) (s : State) : (endReceive r s).txEpoch = s.txEpoch := by
  rcases endReceive_cases r s with h | h | h | h <;> simp [h.2]
@[simp] theorem endReceive_draws (r : Code) (s : State) : (endReceive r s).draws = s.draws := by
  rcases endReceive_cases r s with h | h | h | h <;> simp [h.2]
@[simp] theorem endReceive_resp (r : Code) (s : State) : (endReceive r s).resp = s.resp := by
  rcases endReceive_cases r s with h | h | h | h <;> simp [h.2]
@[simp] theorem endReceive_agenda (r : Code) (s : State) : (endReceive r s).agenda = s.agenda := by
  rcases endReceive_cases r s with h | h | h | h <;> simp [h.2]
@[simp] theorem endReceive_rxQ (r : Code) (s : State) : (endReceive r s).rxQ = s.rxQ := by
  rcases endReceive_cases r s with h | h | h | h <;> simp [h.2]
@[simp] theorem endReceive_sent (r : Code) (s : State) : (endReceive r s).sent = s.sent := by
  rcases endReceive_cases r s with h | h | h | h <;> simp [h.2]

@[simp] theorem endTransmit_cmdErr (r : Code) (s : State) : (endTransmit r s).cmdErr = s.cmdErr := by
  rcases endTransmit_cases r s with h | h | h | h <;> simp [h.2]
@[simp] theorem endTransmit_op (r : Code) (s : State) : (endTransmit r s).op = s.op := by
  rcases endTransmit_cases r s with h | h | h | h <;> simp [h.2]
@[simp] theorem endTransmit_maxAttempts (r : Code) (s : State) : (endTransmit r s).maxAttempts = s.maxAttempts := by
  rcases endTransmit_cases r s with h | h | h | h <;> simp [h.2]
@[simp] theorem endTransmit_irrBound (r : Code) (s : State) : (endTransmit r s).irrBound = s.irrBound := by
  rcases endTransmit_cases r s with h | h | h | h <;> simp [h.2]
@[simp] theorem endTransmit_ie (r : Code) (s : State) : (endTransmit r s).ie = s.ie := by
  rcases endTransmit_cases r s with h | h | h | h <;> simp [h.2]
@[simp] theorem endTransmit_txLen (r : Code) (s : State) : (endTransmit r s).txLen = s.txLen := by
  rcases endTransmit_cases r s with h | h | h | h <;> simp [h.2]
@[simp] theorem endTransmit_txIndex (r : Code) (s : State) : (endTransmit r s).txIndex = s.txIndex := by
  rcases endTransmit_cases r s with h | h | h | h <;> simp [h.2]
@[simp] theorem endTransmit_rxLen (r : Code) (s : State) : (endTransmit r s).rxLen = s.rxLen := by
  rcases endTransmit_cases r s with h | h | h | h <;> simp [h.2]
@[simp] theorem endTransmit_rxIndex (r : Code) (s : State) : (endTransmit r s).rxIndex = s.rxIndex := by
  rcases endTransmit_cases r s with h | h | h | h <;> simp [h.2]
@[simp] theorem endTransmit_attempts (r : Code) (s : State) : (endTransmit r s).attempts = s.attempts := by
  rcases endTransmit_cases r s with h | h | h | h <;> simp [h.2]
@[simp] theorem endTransmit_irrCount (r : Code) (s : State) : (endTransmit r s).irrCount = s.irrCount := by
  rcases endTransmit_cases r s with h | h | h | h <;> simp [h.2]
@[simp] theorem endTransmit_txPos (r : Code) (s : State) : (endTransmit r s).txPos = s.txPos := by
  rcases endTransmit_cases r s with h | h | h | h <;> simp [h.2]
@[simp] theorem endTransmit_txXor (r : Code) (s : State) : (endTransmit r s).txXor = s.txXor := by
  rcases endTransmit_cases r s with h | h | h | h <;> simp [h.2]
@[simp] theorem endTransmit_lcause (r : Code) (s : State) : (endTransmit r s).lcause = s.lcause := by
  rcases endTransmit_cases r s with h | h | h | h <;> simp [h.2]
@[simp] theorem endTransmit_txBuf (r : Code) (s : State) : (endTransmit r s).txBuf = s.txBuf := by
  rcases endTransmit_cases r s with h | h | h | h <;> simp [h.2]
@[simp] theorem endTransmit_rxBuf (r : Code) (s : State) : (endTransmit r s).rxBuf = s.rxBuf := by
  rcases endTransmit_cases r s with h | h | h | h <;> simp [h.2]
@[simp] theorem endTransmit_inReset (r : Code) (s : State) : (endTransmit r s).inReset = s.inReset := by
  rcases endTransmit_cases r s with h | h | h | h <;> simp [h.2]
@[simp] theorem endTransmit_txEpoch (r : Code) (s : State) : (endTransmit r s).txEpoch = s.txEpoch := by
  rcases endTransmit_cases r s with h | h | h | h <;> simp [h.2]
@[simp] theorem endTransmit_draws (r : Code) (s : State) : (endTransmit r s).draws = s.draws := by
  rcases endTransmit_cases r s with h | h | h | h <;> simp [h.2]
@[simp] theorem endTransmit_resp (r : Code) (s : State) : (endTransmit r s).resp = s.resp := by
  rcases endTransmit_cases r s with h | h | h | h <;> simp [h.2]
@[simp] theorem endTransmit_agenda (r : Code) (s : State) : (endTransmit r s).agenda = s.agenda := by
  rcases endTransmit_cases r s with h | h | h | h <;> simp [h.2]
@[simp] theorem endTransmit_rxQ (r : Code) (s : State) : (endTransmit r s).rxQ = s.rxQ := by
  rcases endTransmit_cases r s with h | h | h | h <;> simp [h.2]
@[simp] theorem endTransmit_sent (r : Code) (s : State) : (endTransmit r s).sent = s.sent := by
  rcases endTransmit_cases r s with h | h | h | h <;> simp [h.2]

@[simp] theorem checkFrame_cmdErr (s : State) : (checkFrame s).cmdErr = s.cmdErr := by
  simp [checkFrame_eq]
@[simp] theorem checkFrame_op (s : State) : (checkFrame s).op = s.op := by
  simp [checkFrame_eq]
@[simp] theorem checkFrame_maxAttempts (s : State) : (checkFrame s).maxAttempts = s.maxAttempts := by
  simp [checkFrame_eq]
@[simp] theorem checkFrame_irrBound (s : State) : (checkFrame s).irrBound = s.irrBound := by
  simp [checkFrame_eq]
@[simp] theorem checkFrame_ie (s : State) : (checkFrame s).ie = s.ie := by
  simp [checkFrame_eq]
@[simp] theorem checkFrame_txLen (s : State) : (checkFrame s).txLen = s.txLen := by
  simp [checkFrame_eq]
@[simp] theorem checkFrame_txIndex (s : State) : (checkFrame s).txIndex = s.txIndex := by
  simp [checkFrame_eq]
@[simp] theorem checkFrame_rxLen (s : State) : (checkFrame s).rxLen = s.rxLen := by
  simp [checkFrame_eq]
@[simp] theorem checkFrame_rxIndex (s : State) : (checkFrame s).rxIndex = s.rxIndex := by
  simp [checkFrame_eq]
@[simp] theorem checkFrame_txBuf (s : State) : (checkFrame s).txBuf = s.txBuf := by
  simp [checkFrame_eq]
@[simp] theorem checkFrame_rxBuf (s : State) : (checkFrame s).rxBuf = s.rxBuf := by
  simp [checkFrame_eq]
@[simp] theorem checkFrame_inReset (s : State) : (checkFrame s).inReset = s.inReset := by
  simp [checkFrame_eq]
@[simp] theorem checkFrame_txEpoch (s : State) : (checkFrame s).txEpoch = s.txEpoch := by
  simp [checkFrame_eq]
@[simp] theorem checkFrame_draws (s : State) : (checkFrame s).draws = s.draws := by
  simp [checkFrame_eq]
@[simp] theorem checkFrame_resp (s : State) : (checkFrame s).resp = s.resp := by
  simp [checkFrame_eq]
@[simp] theorem checkFrame_agenda (s : State) : (checkFrame s).agenda = s.agenda := by
  simp [checkFrame_eq]
@[simp] theorem checkFrame_rxQ (s : State) : (checkFrame s).rxQ = s.rxQ := by
  simp [checkFrame_eq]
@[simp] theorem checkFrame_sent (s : State) : (checkFrame s).sent = s.sent := by
  simp [checkFrame_eq]

end Sys2Proof.Machine
end

