-- ==== Sys2Proof/Laws/PerInstr.lean ====
section
/-! SUPPORT. Per instruction: how many bytes its encoding has (30_encoding.md R100, R110, R114; the byte layout of BUS and CMD
words is the model's, log entry 16). -/

namespace Sys2Proof.Laws.EncodedSize

/-- The bytes of an encoding: 1 for a read and for a frame's identifier, 5 for a write, 4 for a command word, L + 7 for a
frame. -/
def size : Instr → Nat
  | .rdId | .rdCmd | .rdStatus | .rdConfig | .rdTxLen | .rdTxIndex | .rdTxData | .rdRxLen => 1
  | .rdRxIndex | .rdRxData | .rdAttempts | .rdIrrCount | .rdRxPos | .rdTxPos | .rdState | .rdReserved3C => 1
  | .wrId _ | .wrCmd _ | .wrStatus _ | .wrConfig _ | .wrTxLen _ | .wrTxIndex _ | .wrTxData _ | .wrRxLen _ => 5
  | .wrRxIndex _ | .wrRxData _ | .wrAttempts _ | .wrIrrCount _ | .wrRxPos _ | .wrTxPos _ | .wrState _ => 5
  | .wrReserved3C _ => 5
  | .cmdNop _ | .cmdRecv _ | .cmdXmit _ | .cmdSend _ | .cmdReserved4to7 _ _ | .cmdReserved8toF _ _ => 4
  | .frame _ payload => payload.length + 8
  | .frameAck | .frameNack | .frameOtherId _ => 1

/-- The encoding of an instruction has the size of its row. -/
def Statement (i : Instr) : Prop := (encode i).length = size i

theorem rdId : Statement .rdId := rfl
theorem wrId (v : Word) : Statement (.wrId v) := rfl
theorem rdCmd : Statement .rdCmd := rfl
theorem wrCmd (v : Word) : Statement (.wrCmd v) := rfl
theorem rdStatus : Statement .rdStatus := rfl
theorem wrStatus (v : Word) : Statement (.wrStatus v) := rfl
theorem rdConfig : Statement .rdConfig := rfl
theorem wrConfig (v : Word) : Statement (.wrConfig v) := rfl
theorem rdTxLen : Statement .rdTxLen := rfl
theorem wrTxLen (v : Word) : Statement (.wrTxLen v) := rfl
theorem rdTxIndex : Statement .rdTxIndex := rfl
theorem wrTxIndex (v : Word) : Statement (.wrTxIndex v) := rfl
theorem rdTxData : Statement .rdTxData := rfl
theorem wrTxData (v : Word) : Statement (.wrTxData v) := rfl
theorem rdRxLen : Statement .rdRxLen := rfl
theorem wrRxLen (v : Word) : Statement (.wrRxLen v) := rfl
theorem rdRxIndex : Statement .rdRxIndex := rfl
theorem wrRxIndex (v : Word) : Statement (.wrRxIndex v) := rfl
theorem rdRxData : Statement .rdRxData := rfl
theorem wrRxData (v : Word) : Statement (.wrRxData v) := rfl
theorem rdAttempts : Statement .rdAttempts := rfl
theorem wrAttempts (v : Word) : Statement (.wrAttempts v) := rfl
theorem rdIrrCount : Statement .rdIrrCount := rfl
theorem wrIrrCount (v : Word) : Statement (.wrIrrCount v) := rfl
theorem rdRxPos : Statement .rdRxPos := rfl
theorem wrRxPos (v : Word) : Statement (.wrRxPos v) := rfl
theorem rdTxPos : Statement .rdTxPos := rfl
theorem wrTxPos (v : Word) : Statement (.wrTxPos v) := rfl
theorem rdState : Statement .rdState := rfl
theorem wrState (v : Word) : Statement (.wrState v) := rfl
theorem rdReserved3C : Statement .rdReserved3C := rfl
theorem wrReserved3C (v : Word) : Statement (.wrReserved3C v) := rfl
theorem cmdNop (hi : BitVec 28) : Statement (.cmdNop hi) := rfl
theorem cmdRecv (hi : BitVec 28) : Statement (.cmdRecv hi) := rfl
theorem cmdXmit (hi : BitVec 28) : Statement (.cmdXmit hi) := rfl
theorem cmdSend (hi : BitVec 28) : Statement (.cmdSend hi) := rfl
theorem cmdReserved4to7 (low : BitVec 2) (hi : BitVec 28) : Statement (.cmdReserved4to7 low hi) := rfl
theorem cmdReserved8toF (low : BitVec 3) (hi : BitVec 28) : Statement (.cmdReserved8toF low hi) := rfl
theorem frame (ident : Byte) (payload : List Byte) : Statement (.frame ident payload) := by
  simp [Statement, encode, frameBytes, size]
theorem frameAck : Statement .frameAck := rfl
theorem frameNack : Statement .frameNack := rfl
theorem frameOtherId (ident : Byte) : Statement (.frameOtherId ident) := rfl

end Sys2Proof.Laws.EncodedSize
end

