-- ==== Sys2Proof/Tests/Slice0.lean ====
section
/-! SUPPORT. The model's own tests: the checks of WellFormed, each constructor's decoding from words written out from the
spec's encodings, one-step tests whose expected values are those of spec/95_test_vectors.md, and for every statement with
hypotheses a state and operands that meet them. -/

open Sys2Proof Sys2Proof.Machine Sys2Proof.Claims

namespace Sys2Proof.Tests

/-! WellFormed: an ill-formed term for each check. -/

/-- 30_encoding.md R103: a payload of 65534 bytes is the longest. -/
theorem test_wellFormed_longest_payload : (Instr.frame 0x02#8 (List.replicate 65534 0x00#8)).wellFormed = true := by
  simp only [Instr.wellFormed, List.length_replicate]; decide

/-- 30_encoding.md R103: L = 65536 does not fit the length field. -/
theorem test_wellFormed_refuses_long_payload :
    (Instr.frame 0x02#8 (List.replicate 65535 0x00#8)).wellFormed = false := by
  simp only [Instr.wellFormed, List.length_replicate]; decide

/-- 43_sequencer.md R237: 0x83 and 0x84 are the rows FRAME_ACK and FRAME_NACK. -/
theorem test_wellFormed_refuses_ack_as_other :
    (Instr.frameOtherId 0x83#8).wellFormed = false ∧ (Instr.frameOtherId 0x84#8).wellFormed = false ∧
      (Instr.frameOtherId 0x85#8).wellFormed = true := by decide

/-! Decode: words written out from the spec's encodings. -/

/-- The keys of the sixteen reads: dir = 0, bits [5:0] the offset (30_encoding.md R114, R116; opcode_table.json). -/
theorem test_decode_reads :
    ([0b0000000#8, 0b0000100#8, 0b0001000#8, 0b0001100#8, 0b0010000#8, 0b0010100#8, 0b0011000#8, 0b0011100#8,
      0b0100000#8, 0b0100100#8, 0b0101000#8, 0b0101100#8, 0b0110000#8, 0b0110100#8, 0b0111000#8, 0b0111100#8].map
        fun k => (decode .bus [k]).toOption) =
    [Instr.rdId, .rdCmd, .rdStatus, .rdConfig, .rdTxLen, .rdTxIndex, .rdTxData, .rdRxLen, .rdRxIndex, .rdRxData,
      .rdAttempts, .rdIrrCount, .rdRxPos, .rdTxPos, .rdState, .rdReserved3C].map fun i => some (i, []) := by decide

/-- The keys of the sixteen writes: dir = 1; the value 0x12345678 follows, low byte first (log entry 16). -/
theorem test_decode_writes :
    ([0b1000000#8, 0b1000100#8, 0b1001000#8, 0b1001100#8, 0b1010000#8, 0b1010100#8, 0b1011000#8, 0b1011100#8,
      0b1100000#8, 0b1100100#8, 0b1101000#8, 0b1101100#8, 0b1110000#8, 0b1110100#8, 0b1111000#8, 0b1111100#8].map
        fun k => (decode .bus [k, 0x78#8, 0x56#8, 0x34#8, 0x12#8]).toOption) =
    [Instr.wrId 0x12345678#32, .wrCmd 0x12345678#32, .wrStatus 0x12345678#32, .wrConfig 0x12345678#32,
      .wrTxLen 0x12345678#32, .wrTxIndex 0x12345678#32, .wrTxData 0x12345678#32, .wrRxLen 0x12345678#32,
      .wrRxIndex 0x12345678#32, .wrRxData 0x12345678#32, .wrAttempts 0x12345678#32, .wrIrrCount 0x12345678#32,
      .wrRxPos 0x12345678#32, .wrTxPos 0x12345678#32, .wrState 0x12345678#32,
      .wrReserved3C 0x12345678#32].map fun i => some (i, []) := by decide

/-- Command words: OP = bits [3:0], bits [31:4] ignored (30_encoding.md R110 to R113). -/
theorem test_decode_commands :
    ([[0x00#8, 0x00#8, 0x00#8, 0x80#8], [0xF1#8, 0xFF#8, 0xFF#8, 0xFF#8], [0x02#8, 0x00#8, 0x00#8, 0x00#8],
      [0x13#8, 0x00#8, 0x00#8, 0x00#8], [0x04#8, 0x00#8, 0x00#8, 0x00#8], [0x27#8, 0x00#8, 0x00#8, 0x00#8],
      [0x08#8, 0x00#8, 0x00#8, 0x00#8], [0x0F#8, 0x00#8, 0x00#8, 0x00#8]].map fun b => (decode .cmd b).toOption) =
    [Instr.cmdNop 0x8000000#28, .cmdRecv 0xFFFFFFF#28, .cmdXmit 0#28, .cmdSend 1#28, .cmdReserved4to7 0#2 0#28,
      .cmdReserved4to7 3#2 2#28, .cmdReserved8toF 0#3 0#28, .cmdReserved8toF 7#3 0#28].map fun i => some (i, []) := by
  decide

/-- Frames of 95_test_vectors.md section 0 (ACK(02), IRR, T02), with bytes left over behind the last (R100, R108). -/
theorem test_decode_frames :
    (decode .wire [0xA0#8, 0xA1#8, 0x00#8, 0x02#8, 0x83#8, 0x02#8, 0x81#8, 0x0D#8, 0x0A#8]).toOption =
      some (.frame 0x83#8 [0x02#8], []) ∧
    (decode .wire [0xA0#8, 0xA1#8, 0x00#8, 0x04#8, 0xA8#8, 0x00#8, 0x00#8, 0x00#8, 0xA8#8, 0x0D#8, 0x0A#8]).toOption =
      some (.frame 0xA8#8 [0x00#8, 0x00#8, 0x00#8], []) ∧
    (decode .wire [0xA0#8, 0xA1#8, 0x00#8, 0x01#8, 0x02#8, 0x02#8, 0x0D#8, 0x0A#8, 0xA0#8, 0xA1#8]).toOption =
      some (.frame 0x02#8 [], [0xA0#8, 0xA1#8]) := by decide

/-- The three identifiers of a SEND wait (43_sequencer.md R237; 30_encoding.md R106). -/
theorem test_decode_frame_ids :
    ([0x83#8, 0x84#8, 0xA8#8].map fun b => (decode .frameId [b]).toOption) =
      [Instr.frameAck, .frameNack, .frameOtherId 0xA8#8].map fun i => some (i, []) := by decide

/-- Bytes that are no instruction are refused by name: a bad preamble, L = 0 (D5), the marker 0D 0B (D7), a wrong
checksum (W2), a body cut short, an offset that is no multiple of 4 (H21), a key of more than 7 bits. -/
theorem test_decode_rejects :
    decode .wire [0xA0#8, 0xA2#8, 0x00#8, 0x01#8, 0x02#8, 0x02#8, 0x0D#8, 0x0A#8] = .error .badPreamble ∧
    decode .wire [0xA0#8, 0xA1#8, 0x00#8, 0x00#8, 0x00#8, 0x0D#8, 0x0A#8] = .error .zeroLength ∧
    decode .wire [0xA0#8, 0xA1#8, 0x00#8, 0x02#8, 0x83#8, 0x02#8, 0x81#8, 0x0D#8, 0x0B#8] = .error .badEndMarker ∧
    decode .wire [0xA0#8, 0xA1#8, 0x00#8, 0x02#8, 0x83#8, 0x02#8, 0x85#8, 0x0D#8, 0x0A#8] = .error .badChecksum ∧
    decode .wire [0xA0#8, 0xA1#8, 0x00#8, 0x02#8, 0x83#8, 0x02#8, 0x81#8, 0x0D#8] = .error .truncated ∧
    decode .bus [0x0A#8] = .error .badOffset ∧ decode .bus [0x80#8] = .error .spareKeyBit := by
  refine ⟨rfl, rfl, rfl, rfl, rfl, rfl, rfl⟩

/-- E3 and E10 of 95_test_vectors.md: no byte is escaped, and L = 256 goes out as 0x01 0x00 (30_encoding.md R101, R107). -/
theorem test_encode_frames :
    encode (.frame 0x30#8 [0xA0#8, 0xA1#8, 0x0D#8, 0x0A#8]) =
      [0xA0#8, 0xA1#8, 0x00#8, 0x05#8, 0x30#8, 0xA0#8, 0xA1#8, 0x0D#8, 0x0A#8, 0x36#8, 0x0D#8, 0x0A#8] ∧
    (encode (.frame 0x55#8 (List.replicate 255 0x00#8))).take 4 = [0xA0#8, 0xA1#8, 0x01#8, 0x00#8] := by
  exact ⟨by decide, by decide +kernel⟩

/-- Words of the opcode table: RD_STATUS, WR_TX_LEN, CMD_SEND, FRAME_NACK (log entry 17). -/
theorem test_decode_table_words :
    decodeTableWord 8 0x08 = some .rdStatus ∧ decodeTableWord 8 0x50 = some (.wrTxLen 0#32) ∧
      decodeTableWord 8 0x03 = some (.cmdSend 0#28) ∧ decodeTableWord 8 0x84 = some .frameNack := by decide

/-! States of 95_test_vectors.md. -/

/-- What a next state holds. -/
def look {α : Type} (f : State → α) : Outcome State → Option α
  | .next t => some (f t)
  | .fault _ => none
  | .refused _ => none

/-- A running RECV, as H24 leaves it. -/
def recvS : State := { State.reset with busy := true, op := .recv, sqst := .recv, rxst := .seek1 }

/-- TX_BUF and TX_LEN loaded with T02. -/
def loadedS : State := { State.reset with txLen := 1, txIndex := 1, txBuf := [(0, 0x02#8)] }

/-- An XMIT of T02 that has just been accepted. -/
def xmitS : State := { loadedS with busy := true, op := .xmit, sqst := .xmit }

/-- The wait of a SEND of T02, first attempt. -/
def waitS : State :=
  { loadedS with
    busy := true, op := .send, sqst := .recv, rxst := .seek1, attempts := 1, txPos := 8, txXor := 0x02#8 }

/-- A SEND of T02 that has just been accepted. -/
def sendS : State := { loadedS with busy := true, op := .send, sqst := .xmit, attempts := 1 }

/-- The wait of a SEND of T02 with the body of ACK(02) received. -/
def ackS : State :=
  { waitS with
    sqst := .idle, rxst := .idle, rxLen := 2, rxPos := 5, rxXor := 0x81#8,
    rxBuf := [(0, 0x83#8), (1, 0x02#8), (2, 0x81#8), (3, 0x0D#8), (4, 0x0A#8)] }

/-- STATUS = 0x1016, the start of H16 and H17. -/
def h16S : State := { State.reset with op := .recv, result := .ok, done := true, cmdErr := true }

/-- The reset input asserted, with a byte written in TX_BUF. -/
def heldS : State := { State.reset with inReset := true, txBuf := [(0, 0x02#8)] }

/-! Host access vectors. -/

theorem test_h1_h2_reads : look (·.resp) (exec .rdId .reset) = some (.data 0x534B0007#32) ∧
    look (·.resp) (exec .rdConfig .reset) = some (.data 0x00000503#32) := by decide

theorem test_h5_reserved_op :
    look (·.statusWord) (exec (.wrCmd 0x4#32) .reset) = some 0x00000004#32 ∧
    look (·.statusWord) (exec (.cmdReserved4to7 0#2 0#28) .reset) = some 0x00000004#32 ∧
    look (·.statusWord) (exec (.cmdReserved8toF 7#3 0#28) .reset) = some 0x00000004#32 := by decide

theorem test_h7_nop : look (·.statusWord) (exec (.wrCmd 0x10#32) .reset) = some 0#32 ∧
    look (·.statusWord) (exec (.cmdNop 1#28) recvS) = some 0x00001001#32 := by decide

theorem test_h8_h9_empty_frame :
    look (fun t => (t.statusWord, t.txValid)) (exec (.wrCmd 0x2#32) .reset) = some (0x00000004#32, false) ∧
    look (fun t => (t.statusWord, t.attempts)) (exec (.wrCmd 0x3#32) .reset) = some (0x00000004#32, 0) := by decide

theorem test_h10_tx_data_wraps :
    look (fun t => (t.txIndex, t.txByte 65535)) (exec (.wrTxData 0x1AB#32) { State.reset with txIndex := 0xFFFF#16 }) =
      some (0, 0xAB#8) ∧
    look (·.resp) (exec .rdTxData { State.reset with txIndex := 0xFFFF#16, txBuf := [(65535, 0xAB#8)] }) =
      some (.data 0x000000AB#32) := by decide

theorem test_h11_h12_tx_len : look (·.txLen) (exec (.wrTxLen 0x10000#32) .reset) = some 0 ∧
    look (·.txLen) (exec (.wrTxLen 0xFFFF#32) .reset) = some 0xFFFF#16 := by decide

theorem test_h13_rx_data_past_the_end :
    look (·.resp) (exec .rdRxData { State.reset with rxIndex := 65538 }) = some (.data 0#32) ∧
    look (·.resp) (exec .rdRxData { State.reset with rxIndex := 65537, rxBuf := [(65537, 0x0A#8)] }) =
      some (.data 0x0000000A#32) := by decide

theorem test_h14_rx_index : look (·.rxIndex) (exec (.wrRxIndex 0x3FFFF#32) .reset) = some 0x1FFFF#17 ∧
    look (·.rxIndex) (exec (.wrRxIndex 3#32) recvS) = some 3 := by decide

theorem test_h15_config : look (·.configWord) (exec (.wrConfig 0xFFFFFFFF#32) .reset) = some 0x0001FFFF#32 := by decide

theorem test_h16_h17_status_w1c :
    h16S.statusWord = 0x00001016#32 ∧
    look (·.statusWord) (exec (.wrStatus 0xFFFFFFFF#32) h16S) = some 0x00001010#32 ∧
    look (·.statusWord) (exec (.wrStatus 0x2#32) h16S) = some 0x00001014#32 := by decide

theorem test_h18_to_h20_ignored_writes :
    look id (exec (.wrId 0#32) .reset) = some { State.reset with resp := .done } ∧
    look id (exec (.wrState 0xFFFFFFFF#32) .reset) = some { State.reset with resp := .done } ∧
    look id (exec (.wrReserved3C 1#32) .reset) = some { State.reset with resp := .done } := by decide

theorem test_h21_to_h23_admission :
    look (·.resp) (step { State.reset with agenda := [.host ⟨.read, 0x0A, 4, 0⟩] }) = some .busError ∧
    look (fun t => (t.resp, t.cmdErr)) (step { State.reset with agenda := [.host ⟨.write, 0x08, 1, 2⟩] }) =
      some (.busError, false) ∧
    look (·.resp) (step { State.reset with agenda := [.host ⟨.read, 0x40, 4, 0⟩] }) = some .none := by decide

theorem test_h24_recv : look (fun t => (t.statusWord, t.stateWord)) (exec (.wrCmd 1#32) .reset) =
    some (0x00001001#32, 0x00000021#32) := by decide

theorem test_h25_h28_refused_while_busy :
    look (fun t => (t.statusWord, t.txIndex)) (exec (.wrTxData 0x05#32) recvS) = some (0x00001005#32, 0) ∧
    look (fun t => (t.statusWord, t.stateWord)) (exec (.wrCmd 0x1#32) recvS) =
      some (0x00001005#32, 0x00000021#32) := by decide

theorem test_h30_no_attempts : look (fun t => (t.statusWord, t.attempts)) (exec (.wrCmd 3#32)
    { loadedS with maxAttempts := 0 }) = some (0x000030A2#32, 0) := by decide

theorem test_h31_irq : look (·.irq) (exec (.wrConfig 0x00010503#32) { State.reset with done := true }) = some true ∧
    look (·.irq) (exec (.wrStatus 0x2#32) { State.reset with done := true, ie := true }) = some false := by decide

/-- P2 row 6: a SEND at its first byte; and the codes of R42 in a STATE read of a running receiver. -/
theorem test_p2_state_codes :
    look (·.resp) (exec .rdState sendS) = some (.data 0x00000010#32) ∧
    ([RxSt.seek2, .lenH, .lenL, .body].map fun x => look (·.resp) (exec .rdState { recvS with rxst := x })) =
      [some (.data 0x22#32), some (.data 0x23#32), some (.data 0x24#32), some (.data 0x25#32)] := by decide

/-! Encoder vectors: the last answer of E1, E5 and E7. -/

theorem test_e1_last_byte :
    look (fun t => (t.statusWord, t.stateWord, t.txPos)) (step
      { xmitS with txPos := 7, txXor := 0x02#8, agenda := [.tx .accept] }) = some (0x00002012#32, 0x00020000#32, 8) ∧
    ({ xmitS with txPos := 7 } : State).txLast = true ∧ ({ xmitS with txPos := 7 } : State).txData = 0x0A#8 := by decide

theorem test_e5_error_at_once :
    look (fun t => (t.statusWord, t.stateWord, t.txPos, t.sent)) (step { xmitS with agenda := [.tx .error] }) =
      some (0x00002072#32, 0#32, 0, []) := by decide

theorem test_e7_error_at_the_end :
    look (fun t => (t.statusWord, t.stateWord, t.txPos)) (step
      { xmitS with
        txLen := 2, txBuf := [(0, 0x02#8), (1, 0x01#8)], txPos := 8, txXor := 0x03#8, agenda := [.tx .error] }) =
      some (0x00002072#32, 0x00030000#32, 8) := by decide

/-! Decoder vectors, each frame in one step; and the preamble search. -/

/-- W1. -/
theorem test_w1_ack_received :
    look (fun t => (t.statusWord, t.stateWord, t.rxLen, t.rxPos)) (exec (.frame 0x83#8 [0x02#8]) recvS) =
      some (0x00001012#32, 0x00008100#32, 2, 5) ∧
    look (·.rxBuf) (exec (.frame 0x83#8 [0x02#8]) recvS) =
      some [(0, 0x83#8), (1, 0x02#8), (2, 0x81#8), (3, 0x0D#8), (4, 0x0A#8)] := by decide

/-- The verdict on a body whose last byte, `last`, is the next event. -/
def lastByteOf (len : BitVec 16) (pos : BitVec 17) (sum : Byte) (body : Memory) (last : Byte) : State :=
  { recvS with
    rxst := .body, rxLen := len, rxPos := pos, rxXor := sum, rxBuf := body, rxQ := [.byte last], agenda := [.rx] }

/-- W2, D8, D5 and D6: a wrong checksum, a wrong marker and checksum, and two bodies with L = 0. -/
theorem test_w2_d8_d5_d6_verdicts :
    look (·.statusWord) (step (lastByteOf 2 4 0x81#8
      [(0, 0x83#8), (1, 0x02#8), (2, 0x85#8), (3, 0x0D#8)] 0x0A#8)) = some 0x00001032#32 ∧
    look (·.statusWord) (step (lastByteOf 2 4 0x81#8
      [(0, 0x83#8), (1, 0x02#8), (2, 0x85#8), (3, 0x0A#8)] 0x0D#8)) = some 0x00001022#32 ∧
    look (·.statusWord) (step (lastByteOf 0 2 0 [(0, 0x00#8), (1, 0x0D#8)] 0x0A#8)) = some 0x00001042#32 ∧
    look (·.statusWord) (step (lastByteOf 0 2 0 [(0, 0x01#8), (1, 0x0D#8)] 0x0A#8)) = some 0x00001032#32 := by decide

/-- D10 and D11: EOS in the body, RXERR in the header. -/
theorem test_d10_d11_stream_errors :
    look (fun t => (t.statusWord, t.stateWord, t.rxPos)) (step
      { lastByteOf 2 1 0x83#8 [(0, 0x83#8)] 0 with rxQ := [.eos] }) =
      some (0x00001052#32, 0x00008300#32, 1) ∧
    look (·.statusWord) (step
      { recvS with rxst := .lenL, rxQ := [.rxErr], agenda := [.rx] }) = some 0x00001062#32 := by decide

/-- R192 to R194: 0xA0 in SEEK2 stays there, 0xA1 goes on, any other byte starts anew (W3). -/
theorem test_w3_preamble_search :
    ([0xA0#8, 0xA1#8, 0x33#8].map fun b => look (·.rxst) (step
      { recvS with rxst := .seek2, rxQ := [.byte b], agenda := [.rx] })) =
      [some .seek2, some .lenH, some .seek1] := by decide

/-! Sequencer vectors: the frame of a wait in one step. -/

/-- S1: the matching ACK. -/
theorem test_s1_ack : look (fun t => (t.statusWord, t.stateWord, t.attempts, t.irrCount)) (exec .frameAck ackS) =
    some (0x00003012#32, 0x00028100#32, 1, 0) := by decide

/-- S8: ACK(01) takes one irrelevant slot; the wait goes on. -/
theorem test_s8_stale_ack : look (fun t => (t.irrCount, t.rxst, t.busy)) (exec (.frame 0x83#8 [0x01#8]) waitS) =
    some (1, .seek1, true) := by decide

/-- S9: an ACK with no target, though RX_BUF[1] happens to hold the identifier. -/
theorem test_s9_ack_without_target :
    look (fun t => (t.irrCount, t.rxst)) (exec .frameAck { ackS with rxLen := 1 }) = some (1, .seek1) := by decide

/-- S10: one irrelevant frame at bound 0 and the last attempt. -/
theorem test_s10_irrelevant_bound :
    look (fun t => (t.statusWord, t.stateWord, t.attempts, t.irrCount)) (exec (.frameOtherId 0xA8#8)
      { ackS with rxXor := 0xA8#8, maxAttempts := 1, irrBound := 0 }) =
      some (0x000039A2#32, 0x0902A800#32, 1, 1) := by decide

/-- S2 and S16: NACK(02) starts the second attempt; on the last one it ends the SEND. -/
theorem test_s2_s16_nack :
    look (fun t => (t.sqst, t.attempts, t.lcause, t.txPos, t.txValid)) (exec .frameNack ackS) =
      some (.xmit, 2, .nack, 0, true) ∧
    look (fun t => (t.statusWord, t.stateWord)) (exec .frameNack { ackS with attempts := 3, rxXor := 0x86#8 }) =
      some (0x000038A2#32, 0x08028600#32) := by decide

/-- S11: a wrong checksum in the wait fails the attempt with that cause, and the next one starts. -/
theorem test_s11_framing_error_in_wait :
    look (fun t => (t.sqst, t.attempts, t.lcause, t.busy)) (step
      { waitS with
        rxst := .body, rxLen := 2, rxPos := 4, rxXor := 0x81#8, agenda := [.rx], rxQ := [.byte 0x0A#8],
        rxBuf := [(0, 0x83#8), (1, 0x02#8), (2, 0x85#8), (3, 0x0D#8)] }) = some (.xmit, 2, .checksum, true) := by decide

/-- S15: bytes behind the target play no part. -/
theorem test_s15_ack_with_more_payload :
    look (fun t => (t.statusWord, t.stateWord, t.rxPos)) (exec (.frame 0x83#8 [0x02#8, 0x55#8, 0x66#8]) waitS) =
      some (0x00003012#32, 0x0002B200#32, 7) := by decide

/-! For each statement with hypotheses, a state and operands that meet all of them; where it has several clauses over one
input, at the boundary of each. -/

theorem witness_DecodeEncodeAgree :
    (Instr.frame 0x02#8 (List.replicate 65534 0x00#8)).wellFormed = true ∧
    (Instr.wrTxLen 0xFFFFFFFF#32).wellFormed = true ∧ (Instr.cmdReserved8toF 7#3 0xFFFFFFF#28).wellFormed = true ∧
    (Instr.frameOtherId 0x85#8).wellFormed = true :=
  ⟨test_wellFormed_longest_payload, rfl, rfl, rfl⟩

theorem witness_DecodeYieldsOnlyEncodings :
    decode .wire [0xA0#8, 0xA1#8, 0x00#8, 0x01#8, 0x02#8, 0x02#8, 0x0D#8, 0x0A#8, 0x55#8] =
      .ok (.frame 0x02#8 [], [0x55#8]) ∧
    decode .bus [0x3C#8] = .ok (.rdReserved3C, []) ∧ decode .cmd [0x13#8, 0#8, 0#8, 0#8] = .ok (.cmdSend 1#28, []) ∧
    decode .frameId [0x84#8] = .ok (.frameNack, []) := ⟨rfl, rfl, rfl, rfl⟩

theorem witness_CommandIgnoresHighBits :
    (0x3#32).extractLsb' 0 4 = (0xFFFFFFF3#32).extractLsb' 0 4 := by decide

theorem witness_StepRunsAdmittedAccess :
    ({ recvS with agenda := [.host ⟨.write, 0x3C, 4, 1⟩, .rx] } : State).agenda = .host ⟨.write, 0x3C, 4, 1⟩ :: [.rx] ∧
    0x3C < 64 ∧ 0x3C % 4 = 0 ∧ (⟨.write, 0x3C, 4, 1⟩ : Access).width = 4 := by decide

theorem witness_StepRunsPresentedInstruction :
    (Instr.wrConfig 0x00010102#32).format = .bus ∧
    accessOf (.wrConfig 0x00010102#32) = some ⟨.write, 0x0C, 4, 0x00010102#32⟩ ∧
    accessOf (.cmdSend 0#28) = some ⟨.write, 0x04, 4, 3#32⟩ ∧ accessOf .rdState = some ⟨.read, 0x38, 4, 0#32⟩ ∧
    ({ State.reset with agenda := [.host ⟨.read, 0x38, 4, 0#32⟩] } : State).agenda =
      .host ⟨.read, 0x38, 4, 0#32⟩ :: [] := by decide

/-- The longest payload and the empty one. -/
theorem witness_StepRunsOfferedFrame :
    (List.replicate 65534 0x00#8).length ≤ 65534 ∧ ([] : List Byte).length ≤ 65534 ∧
    ({ recvS with agenda := [.rxFrame, .rx], rxQ := events (encode (.frame 0x02#8 [])) ++ [.eos] } : State).agenda =
      .rxFrame :: [.rx] ∧
    ({ recvS with agenda := [.rxFrame, .rx], rxQ := events (encode (.frame 0x02#8 [])) ++ [.eos] } : State).rxQ =
      events (encode (.frame 0x02#8 [])) ++ [.eos] := by
  exact ⟨Nat.le_of_eq List.length_replicate, by decide, rfl, rfl⟩

/-- The wait of a SEND with all of T02's answer `A0 A1 00 01 83 83 0D 0A` taken but its last byte. -/
def lastS : State :=
  { waitS with
    rxst := .body, rxLen := 1, rxPos := 3, rxXor := 0x83#8, rxBuf := [(0, 0x83#8), (1, 0x83#8), (2, 0x0D#8)],
    rxQ := [.byte 0x0A#8, .eos], agenda := [.rx, .rx] }

theorem witness_StepClassifiesGoodFrame :
    lastS.agenda = .rx :: [.rx] ∧ lastS.rxQ = .byte 0x0A#8 :: [.eos] ∧ lastS.inReset = false ∧ lastS.rxst = .body ∧
    lastS.op = .send ∧ 1 ≤ lastS.rxLen.toNat ∧ lastS.rxPos.toNat = lastS.rxLen.toNat + 2 ∧
    lastS.rxByte (lastS.rxLen.toNat + 1) = 0x0D#8 ∧ lastS.rxByte lastS.rxLen.toNat = lastS.rxXor := by decide

/-- A running RECV with turns for a whole frame of one payload byte, and the frame ACK(02) on offer. -/
def offeredS : State :=
  { recvS with
    agenda := List.replicate 9 Turn.rx ++ [.rx], rxQ := events (encode (.frame 0x83#8 [0x02#8])) ++ [.eos] }

theorem witness_FrameIsItsHandshakes :
    offeredS.agenda = List.replicate ([0x02#8].length + 8) Turn.rx ++ [.rx] ∧
    offeredS.rxQ = events (encode (.frame 0x83#8 [0x02#8])) ++ [.eos] := by decide

/-- The first and the last byte of the window, by width and by alignment. -/
theorem witness_MisalignedAccessChangesNothing :
    64 ∣ 128 ∧ 128 ≤ 191 ∧ 191 < 128 + 64 ∧ 191 % 4 ≠ 0 ∧ accessAt 128 191 4 .read 0 = some ⟨.read, 63, 4, 0⟩ ∧
    (1 : Nat) ≠ 4 ∧ accessAt 128 128 1 .write 2 = some ⟨.write, 0, 1, 2⟩ ∧
    ({ State.reset with agenda := [.host ⟨.write, 0, 1, 2⟩] } : State).agenda = .host ⟨.write, 0, 1, 2⟩ :: [] := by
  decide

/-- The byte below the window and the byte above it. -/
theorem witness_AccessOutsideWindowChangesNothing :
    127 < 128 ∧ accessAt 128 127 4 .read 0 = .none ∧ 128 + 64 ≤ 192 ∧
    accessAt 128 192 4 .read 0 = some ⟨.read, 64, 4, 0⟩ ∧
    ({ State.reset with agenda := [.host ⟨.read, 64, 4, 0⟩, .rx] } : State).agenda =
      .host ⟨.read, 64, 4, 0⟩ :: [.rx] := by decide

theorem witness_ReadIdCmdAndReserved : recvS.inReset = false := rfl

theorem witness_ReadStatusFields : h16S.inReset = false := rfl

theorem witness_ReadConfigFields : State.reset.inReset = false := rfl

theorem witness_ReadStateFields : lastS.inReset = false := rfl

theorem witness_ReadCounterRegisters : lastS.inReset = false ∧ ackS.inReset = false := ⟨rfl, rfl⟩

/-- A byte of TX_BUF that was written. -/
theorem witness_ReadTxData : ({ loadedS with txIndex := 0 } : State).inReset = false ∧
    memRead ({ loadedS with txIndex := 0 } : State).txBuf 0 = some 0x02#8 := by decide

/-- The last index of RX_BUF, the first one past it, and a running operation. -/
theorem witness_ReadRxData :
    ({ State.reset with rxIndex := 65537 } : State).busy = false ∧
    ({ State.reset with rxIndex := 65537 } : State).rxIndex.toNat < 65538 ∧
    ({ State.reset with rxIndex := 65538 } : State).inReset = false ∧
    65538 ≤ ({ State.reset with rxIndex := 65538 } : State).rxIndex.toNat ∧
    recvS.inReset = false ∧ recvS.busy = true := by decide

theorem witness_ReadOnlyWritesIgnored : recvS.inReset = false ∧ recvS.busy = true ∧
    Instr.wrReserved3C 1 ∈ [Instr.wrId 1, .wrRxLen 1, .wrRxData 1, .wrAttempts 1, .wrIrrCount 1, .wrRxPos 1, .wrTxPos 1,
      .wrState 1, .wrReserved3C 1] := by decide

theorem witness_StatusWriteClearsFlags : h16S.inReset = false ∧ h16S.done = true ∧ h16S.cmdErr = true := by decide

/-- No operation, and one running. -/
theorem witness_ConfigAndLengthWritesStore :
    loadedS.inReset = false ∧ loadedS.busy = false ∧ xmitS.inReset = false ∧ xmitS.busy = true := by decide

/-- TX_INDEX at its last value, and a running operation. -/
theorem witness_TxDataWriteStoresByte :
    ({ loadedS with txIndex := 0xFFFF#16 } : State).inReset = false ∧
    ({ loadedS with txIndex := 0xFFFF#16 } : State).busy = false ∧ (0 : Nat) ≠ (0xFFFF#16).toNat ∧
    sendS.inReset = false ∧ sendS.busy = true := by decide

theorem witness_RxIndexWriteStores : recvS.inReset = false ∧ recvS.busy = true := by decide

/-- CMD_ERR clear and a write that is refused; CMD_ERR set, a write that clears it, and reset. -/
theorem witness_CmdErrChangesExactly :
    ({ recvS with agenda := [wordWrite .txLen 1] } : State).cmdErr = false ∧
    look (·.cmdErr) (step { recvS with agenda := [wordWrite .txLen 1] }) = some true ∧
    refused .txLen 1 recvS ∧ refused .cmd 0x3#32 State.reset ∧ refused .cmd 0x4#32 State.reset ∧
    refused .cmd 0x1#32 recvS ∧ h16S.cmdErr = true ∧
    look (·.cmdErr) (step { h16S with agenda := [wordWrite .status 4] }) = some false ∧
    look (·.cmdErr) (step { h16S with agenda := [.assertReset] }) = some false := by
  unfold refused
  decide

theorem witness_AccessInResetKeepsRegisters : heldS.inReset = true := rfl

theorem witness_NopChangesNothing : recvS.inReset = false := rfl

/-- The first and the last reserved code. -/
theorem witness_ReservedCommandsRefused :
    recvS.inReset = false ∧ 4 ≤ (0x4#4).toNat ∧ 4 ≤ (0xF#4).toNat := by decide

theorem witness_RecvAcceptedStartsReceiver : ackS.inReset = false ∧ State.reset.busy = false := ⟨rfl, rfl⟩

/-- TX_LEN at its least. -/
theorem witness_XmitAcceptedStartsEncoder :
    loadedS.inReset = false ∧ loadedS.busy = false ∧ 1 ≤ loadedS.txLen.toNat := by decide

/-- MAX_ATTEMPTS 0 and 1. -/
theorem witness_SendAcceptedStartsAttempt :
    ({ loadedS with maxAttempts := 0 } : State).inReset = false ∧ ({ loadedS with maxAttempts := 0 } : State).busy = false ∧
    1 ≤ ({ loadedS with maxAttempts := 0 } : State).txLen.toNat ∧
    ({ loadedS with maxAttempts := 0 } : State).maxAttempts.toNat = 0 ∧
    ({ loadedS with maxAttempts := 1 } : State).inReset = false ∧ ({ loadedS with maxAttempts := 1 } : State).busy = false ∧
    1 ≤ ({ loadedS with maxAttempts := 1 } : State).txLen.toNat ∧
    1 ≤ ({ loadedS with maxAttempts := 1 } : State).maxAttempts.toNat := by decide

/-- A running operation, and TX_LEN = 0 with none; both clauses ask for the same next state. -/
theorem witness_CommandsRefusedWhenBusyOrEmpty :
    recvS.inReset = false ∧ recvS.busy = true ∧ State.reset.inReset = false ∧ State.reset.txLen.toNat = 0 := by decide

/-- The longest payload. -/
theorem witness_LoadTxLoadsFrame :
    State.reset.inReset = false ∧ State.reset.busy = false ∧ (List.replicate 65534 0x00#8).length ≤ 65534 :=
  ⟨rfl, rfl, Nat.le_of_eq List.length_replicate⟩

/-- A receiver in SEEK1 and one in SEEK2, the longest payload. -/
theorem witness_FrameCompletesRecv :
    (List.replicate 65534 0x00#8).length ≤ 65534 ∧ recvS.inReset = false ∧ recvS.op = .recv ∧ recvS.rxst = .seek1 ∧
    ({ recvS with rxst := .seek2 } : State).rxst = .seek2 :=
  ⟨Nat.le_of_eq List.length_replicate, rfl, rfl, rfl, rfl⟩

theorem witness_FrameWaitsWhileNotReady : State.reset.rxReady = false ∧ xmitS.rxReady = false := by decide

/-- The wait of a SEND with the turns and the bytes of the stream W2, whose checksum is wrong (S11). -/
def badS : State :=
  { waitS with
    agenda := List.replicate 9 Turn.rx ++ [.rx],
    rxQ := events ([0xA0#8, 0xA1#8, 0x00#8, 0x02#8] ++ [0x83#8, 0x02#8] ++ [0x85#8, 0x0D#8, 0x0A#8]) ++ [.eos] }

/-- A body of L = 0, one of L = 2, and the longest one; a RECV, and a SEND wait with each framing error and with none. -/
theorem witness_ReceiverReachesVerdict :
    recvS.inReset = false ∧ recvS.op = .recv ∧ recvS.rxst = .seek1 ∧
    (0x00#8 ++ 0x00#8 : BitVec 16).toNat = ([] : List Byte).length ∧
    (0x00#8 ++ 0x02#8 : BitVec 16).toNat = [0x83#8, 0x02#8].length ∧
    (0xFF#8 ++ 0xFF#8 : BitVec 16).toNat = (List.replicate 65535 0x00#8).length ∧
    offeredS.agenda = List.replicate ([0x83#8, 0x02#8].length + 7) Turn.rx ++ [.rx] ∧
    offeredS.rxQ = events ([0xA0#8, 0xA1#8, 0x00#8, 0x02#8] ++ [0x83#8, 0x02#8] ++ [0x81#8, 0x0D#8, 0x0A#8]) ++ [.eos] ∧
    badS.inReset = false ∧ badS.op = .send ∧ badS.rxst = .seek1 ∧
    badS.agenda = List.replicate ([0x83#8, 0x02#8].length + 7) Turn.rx ++ [.rx] ∧
    badS.rxQ = events ([0xA0#8, 0xA1#8, 0x00#8, 0x02#8] ++ [0x83#8, 0x02#8] ++ [0x85#8, 0x0D#8, 0x0A#8]) ++ [.eos] ∧
    bodyVerdict [0x83#8, 0x02#8] 0x85#8 0x0D#8 0x0A#8 = .checksum ∧
    bodyVerdict [0x83#8, 0x02#8] 0x81#8 0x0D#8 0x0B#8 = .endMarker ∧
    bodyVerdict [] 0x00#8 0x0D#8 0x0A#8 = .zeroLen ∧ bodyVerdict [0x83#8, 0x02#8] 0x81#8 0x0D#8 0x0A#8 = .ok := by
  refine ⟨rfl, rfl, rfl, rfl, rfl, ?_, by decide, by decide, rfl, rfl, rfl, by decide, by decide, by decide, by decide,
    by decide, by decide⟩
  rw [List.length_replicate]; rfl

/-- Garbage that ends in 0xA0, right before the frame (W3, N = 3). -/
theorem witness_ReceiverFindsFrameBehindGarbage :
    noPreamble [0x00#8, 0xA0#8, 0xA0#8] = true ∧ [0x02#8].length ≤ 65534 ∧
    recvS.inReset = false ∧ recvS.op = .recv ∧ recvS.rxst = .seek1 ∧
    ({ recvS with
      agenda := List.replicate 12 Turn.rx,
      rxQ := events ([0x00#8, 0xA0#8, 0xA0#8] ++ encode (.frame 0x83#8 [0x02#8])) } : State).agenda =
      List.replicate ([0x00#8, 0xA0#8, 0xA0#8].length + ([0x02#8].length + 8)) Turn.rx ++ [] ∧
    ({ recvS with
      agenda := List.replicate 12 Turn.rx,
      rxQ := events ([0x00#8, 0xA0#8, 0xA0#8] ++ encode (.frame 0x83#8 [0x02#8])) } : State).rxQ =
      events ([0x00#8, 0xA0#8, 0xA0#8] ++ encode (.frame 0x83#8 [0x02#8])) ++ [] := by decide

/-- ACK(02) with its checksum 0x81 sent as 0x85 (W2, W5), and the highest bit. -/
theorem witness_ChecksumBitFlipIsCaught :
    [0x02#8].length ≤ 65534 ∧ 2 < 8 ∧ 7 < 8 ∧ recvS.inReset = false ∧ recvS.op = .recv ∧ recvS.rxst = .seek1 ∧
    offeredS.agenda = List.replicate ([0x02#8].length + 8) Turn.rx ++ [.rx] ∧
    ({ offeredS with rxQ := events [0xA0#8, 0xA1#8, 0#8, 2#8, 0x83#8, 0x02#8, 0x85#8, 0x0D#8, 0x0A#8] } : State).rxQ =
      events ((encode (.frame 0x83#8 [0x02#8])).modify ([0x02#8].length + 5) (· ^^^ (1#8 <<< 2))) ++ [] := by decide

/-- An accepted XMIT of T02 with TXSNK's answers to all its bytes. -/
def sendingS : State := { xmitS with agenda := List.replicate 8 (Turn.tx .accept) ++ [.rx] }

theorem witness_XmitSendsItsFrame :
    sendingS.inReset = false ∧ sendingS.op = .xmit ∧ sendingS.sqst = .xmit ∧ sendingS.txPos = 0 ∧ sendingS.txXor = 0 ∧
    1 ≤ sendingS.txLen.toNat ∧
    sendingS.agenda = List.replicate (sendingS.txLen.toNat + 7) (Turn.tx .accept) ++ [.rx] := by decide

/-- T02 (E1) sent, and offered to a RECV (D4). -/
theorem witness_XmitThenRecvRoundTrip :
    sendingS.agenda = List.replicate (sendingS.txLen.toNat + 7) (Turn.tx .accept) ++ [.rx] ∧
    look (·.sent) (runSteps (sendingS.txLen.toNat + 7) sendingS) =
      some [0xA0#8, 0xA1#8, 0x00#8, 0x01#8, 0x02#8, 0x02#8, 0x0D#8, 0x0A#8] ∧
    ({ recvS with
      agenda := List.replicate 8 Turn.rx,
      rxQ := events [0xA0#8, 0xA1#8, 0x00#8, 0x01#8, 0x02#8, 0x02#8, 0x0D#8, 0x0A#8] } : State).agenda =
      List.replicate (sendingS.txLen.toNat + 7) Turn.rx ++ [] ∧
    recvS.inReset = false ∧ recvS.op = .recv ∧ recvS.rxst = .seek1 := by decide

/-- An XMIT and a SEND at their first byte. -/
theorem witness_TxErrorEndsOperation :
    ({ xmitS with agenda := [.tx .error] } : State).agenda = .tx .error :: [] ∧ xmitS.inReset = false ∧
    xmitS.sqst = .xmit ∧ xmitS.op = .xmit ∧
    ({ sendS with agenda := [.tx .error, .rx] } : State).agenda = .tx .error :: [.rx] ∧ sendS.inReset = false ∧
    sendS.sqst = .xmit ∧ sendS.op = .send := by decide

/-- RX_LEN at its least, 2. -/
theorem witness_MatchingAckCompletesSend : 2 ≤ ackS.rxLen.toNat ∧ ackS.rxByte 1 = ackS.txByte 0 := by decide

/-- The same body as a NACK, in the first attempt and in the last. -/
theorem witness_MatchingNackFailsAttempt :
    2 ≤ ackS.rxLen.toNat ∧ ackS.rxByte 1 = ackS.txByte 0 ∧ ackS.attempts.toNat < ackS.maxAttempts.toNat ∧
    2 ≤ ({ ackS with attempts := 3 } : State).rxLen.toNat ∧
    ({ ackS with attempts := 3 } : State).rxByte 1 = ({ ackS with attempts := 3 } : State).txByte 0 ∧
    ¬ ({ ackS with attempts := 3 } : State).attempts.toNat < ({ ackS with attempts := 3 } : State).maxAttempts.toNat := by
  decide

/-- The last slot within the bound 5, and the one past it. -/
theorem witness_OtherFrameIsCounted :
    0xA8#8 ≠ 0x83#8 ∧ 0xA8#8 ≠ 0x84#8 ∧
    ({ ackS with irrCount := 4 } : State).irrCount.toNat < 511 ∧
    ({ ackS with irrCount := 4 } : State).irrCount.toNat + 1 ≤ ({ ackS with irrCount := 4 } : State).irrBound.toNat ∧
    ({ ackS with irrCount := 5 } : State).irrCount.toNat < 511 ∧
    ({ ackS with irrCount := 5 } : State).irrBound.toNat < ({ ackS with irrCount := 5 } : State).irrCount.toNat + 1 := by
  decide

/-- No target, and another frame's. -/
theorem witness_StaleAcknowledgementOnlyCounts :
    0xA8#8 ≠ 0x83#8 ∧ 0xA8#8 ≠ 0x84#8 ∧
    ¬ (2 ≤ ({ ackS with rxLen := 1 } : State).rxLen.toNat ∧
      ({ ackS with rxLen := 1 } : State).rxByte 1 = ({ ackS with rxLen := 1 } : State).txByte 0) ∧
    ¬ (2 ≤ ({ ackS with rxBuf := [(0, 0x83#8), (1, 0x01#8)] } : State).rxLen.toNat ∧
      ({ ackS with rxBuf := [(0, 0x83#8), (1, 0x01#8)] } : State).rxByte 1 =
        ({ ackS with rxBuf := [(0, 0x83#8), (1, 0x01#8)] } : State).txByte 0) := by decide

/-- EOS in a RECV, RXERR in the wait of a SEND. -/
theorem witness_StreamErrorEndsReceive :
    ({ recvS with agenda := [.rx], rxQ := [.eos] } : State).agenda = .rx :: [] ∧
    ({ recvS with agenda := [.rx], rxQ := [.eos] } : State).rxQ = .eos :: [] ∧ recvS.inReset = false ∧
    recvS.rxst ≠ .idle ∧ recvS.op = .recv ∧
    ({ waitS with agenda := [.rx], rxQ := [.rxErr] } : State).agenda = .rx :: [] ∧
    ({ waitS with agenda := [.rx], rxQ := [.rxErr] } : State).rxQ = .rxErr :: [] ∧ waitS.inReset = false ∧
    waitS.rxst ≠ .idle ∧ waitS.op = .send := by decide

/-- A wait that EOS ends at once. -/
def silentWait : Wait := { frames := [], tail := [], ending := .eos }

/-- A wait at the bound 1: garbage that ends in 0xA0, an ACK(01), then a frame one byte short, then RXERR. -/
def noisyWait : Wait :=
  { frames := [([0x00#8, 0xA0#8], 0x83#8, [0x01#8])],
    tail := [0xA0#8, 0xA0#8, 0xA1#8, 0x00#8, 0x00#8, 0x00#8, 0x0D#8], ending := .rxErr }

/-- The turns of a SEND of T02 whose two waits are these. -/
def silentTurns : List Turn :=
  wordWrite .cmd 3 :: (([silentWait] ++ [noisyWait]).map fun w =>
    List.replicate 8 (Turn.tx .accept) ++ List.replicate w.offered.length Turn.rx).flatten

/-- T02 loaded, with two attempts, bound 1 and those turns. -/
def silentS : State :=
  { loadedS with
    maxAttempts := 2, irrBound := 1, agenda := silentTurns ++ [.rx],
    rxQ := (([silentWait] ++ [noisyWait]).map Wait.offered).flatten ++ [.byte 0x00#8] }

/-- A silent wait and one with bytes, at the bound; one attempt, the least number, has no wait before the last. -/
theorem witness_SilentDeviceExhaustsAttempts :
    silentS.inReset = false ∧ silentS.busy = false ∧ 1 ≤ silentS.txLen.toNat ∧ (3#32).extractLsb' 0 4 = 0x3#4 ∧
    (∀ w ∈ [silentWait] ++ [noisyWait], w.unanswered silentS) ∧ noisyWait.frames.length = silentS.irrBound.toNat ∧
    [silentWait].length + 1 = silentS.maxAttempts.toNat ∧
    silentTurns = wordWrite .cmd 3 :: (([silentWait] ++ [noisyWait]).map fun w =>
      List.replicate (silentS.txLen.toNat + 7) (Turn.tx .accept) ++ List.replicate w.offered.length Turn.rx).flatten ∧
    silentS.agenda = silentTurns ++ [.rx] ∧
    silentS.rxQ = (([silentWait] ++ [noisyWait]).map Wait.offered).flatten ++ [.byte 0x00#8] ∧
    ([] : List Wait).length + 1 = ({ silentS with maxAttempts := 1 } : State).maxAttempts.toNat := by
  unfold Wait.unanswered irrelevantTo
  decide

/-- The last attempt of a SEND wait with bound 1: an ACK(01), then `final`. -/
def boundS (final : Byte × List Byte) : State :=
  { waitS with
    attempts := 3, irrBound := 1, agenda := List.replicate 2 Turn.rxFrame ++ [.rx],
    rxQ := events ((([(0x83#8, [0x01#8])] ++ [final]).map fun f => encode (.frame f.1 f.2)).flatten) ++ [.eos] }

/-- At the bound with the matching ACK next, and one irrelevant frame past it (the ACK(01) is irrelevant). -/
theorem witness_IrrelevantBoundIsExact :
    (∀ final ∈ [(0x83#8, [0x02#8]), (0xA8#8, [])],
      (boundS final).inReset = false ∧ (boundS final).op = .send ∧ (boundS final).sqst = .recv ∧
      (boundS final).rxst = .seek1 ∧ (boundS final).irrCount = 0 ∧
      (∀ f ∈ [(0x83#8, [0x01#8])], f.2.length ≤ 65534 ∧ irrelevantTo (boundS final) f) ∧
      [((0x83#8 : Byte), [(0x01#8 : Byte)])].length = (boundS final).irrBound.toNat ∧ final.2.length ≤ 65534 ∧
      (boundS final).agenda = List.replicate ([((0x83#8 : Byte), [(0x01#8 : Byte)])].length + 1) Turn.rxFrame ++ [.rx] ∧
      (boundS final).rxQ =
        events ((([(0x83#8, [0x01#8])] ++ [final]).map fun f => encode (.frame f.1 f.2)).flatten) ++ [.eos]) ∧
    [0x02#8].head? = some ((boundS (0x83#8, [0x02#8])).txByte 0) ∧
    irrelevantTo (boundS (0xA8#8, [])) (0xA8#8, []) ∧
    (boundS (0xA8#8, [])).attempts = (boundS (0xA8#8, [])).maxAttempts := by
  unfold irrelevantTo
  decide

/-- P2's SEND with frame T02: NACK(02), then ACK(02) with one more payload byte, two attempts allowed. -/
def retryS : State :=
  { loadedS with
    maxAttempts := 2,
    agenda := wordWrite .cmd 3 ::
      (List.replicate 8 (Turn.tx .accept) ++ Turn.rxFrame ::
        (List.replicate 8 (Turn.tx .accept) ++ Turn.rxFrame :: [.rx])),
    rxQ := events (encode (.frame 0x84#8 [0x02#8]) ++ encode (.frame 0x83#8 [0x02#8, 0x55#8])) ++ [.eos] }

theorem witness_NackThenAckTakesTwoAttempts :
    retryS.inReset = false ∧ retryS.busy = false ∧ 1 ≤ retryS.txLen.toNat ∧ (3#32).extractLsb' 0 4 = 0x3#4 ∧
    2 ≤ retryS.maxAttempts.toNat ∧ ([] : List Byte).length ≤ 65533 ∧ [0x55#8].length ≤ 65533 ∧
    retryS.agenda = wordWrite .cmd 3 ::
      (List.replicate (retryS.txLen.toNat + 7) (Turn.tx .accept) ++ Turn.rxFrame ::
        (List.replicate (retryS.txLen.toNat + 7) (Turn.tx .accept) ++ Turn.rxFrame :: [.rx])) ∧
    retryS.rxQ = events (encode (.frame 0x84#8 (retryS.txByte 0 :: [])) ++
      encode (.frame 0x83#8 (retryS.txByte 0 :: [0x55#8]))) ++ [.eos] := by decide

/-- A running SEND wait satisfies the invariant, and its step answers a next state. -/
theorem witness_StepKeepsInv :
    ({ waitS with agenda := [.rx], rxQ := [.byte 0xA0#8] } : State).Inv ∧
    look (·.rxst) (step { waitS with agenda := [.rx], rxQ := [.byte 0xA0#8] }) = some .seek2 :=
  ⟨by constructor <;> constructor <;> decide, by decide⟩

theorem witness_StepNeverStops : lastS.Inv := by constructor <;> constructor <;> decide

/-- One step from reset, a CMD write that starts a RECV. -/
theorem witness_ReachableStatesKeepR44 :
    look (·.busy) (runSteps 1 { State.reset with agenda := [wordWrite .cmd 1], rxQ := [] }) = some true := by decide

theorem witness_HostCannotDisturbOperation :
    ({ recvS with agenda := [wordWrite .txData 5, .rx] } : State).agenda = wordWrite .txData 5 :: [.rx] ∧
    recvS.busy = true ∧ recvS.inReset = false ∧
    look (·.cmdErr) (step { recvS with agenda := [wordWrite .txData 5, .rx] }) = some true := by decide

/-- Reset while a SEND waits. -/
theorem witness_ResetRestoresRegisters :
    ({ waitS with agenda := [.assertReset, .rx] } : State).agenda = .assertReset :: [.rx] := rfl

/-- The encoder at its last byte, and at the checksum with the running checksums right. -/
theorem witness_PortOutputsFollowState :
    ({ xmitS with txPos := 7 } : State).sqst = .xmit ∧
    ({ xmitS with txPos := 7 } : State).txPos.toNat < ({ xmitS with txPos := 7 } : State).txLen.toNat + 7 ∧
    1 ≤ ({ xmitS with txPos := 7 } : State).txLen.toNat ∧
    ({ xmitS with txPos := 5, txXor := 0x02#8 } : State).ChecksumInv ∧
    ({ xmitS with txPos := 5, txXor := 0x02#8 } : State).sqst = .xmit ∧
    ({ xmitS with txPos := 5, txXor := 0x02#8 } : State).txPos.toNat =
      ({ xmitS with txPos := 5, txXor := 0x02#8 } : State).txLen.toNat + 4 :=
  ⟨by decide, by decide, by decide, by constructor <;> decide, by decide, by decide⟩

/-- No turn; each receiver turn with `rx_ready` = 0, in reset, and with nothing on offer; an answer during a SEND wait and
while a transmission is held in reset. -/
theorem witness_TurnWithoutHandshakeChangesNothing :
    State.reset.agenda = [] ∧
    ({ xmitS with agenda := [.rx], rxQ := [.eos] } : State).agenda = .rx :: [] ∧ xmitS.rxReady = false ∧
    ({ offeredS with inReset := true, agenda := [.rxFrame] } : State).agenda = .rxFrame :: [] ∧
    ({ offeredS with inReset := true, agenda := [.rxFrame] } : State).inReset = true ∧ offeredS.rxReady = true ∧
    ({ recvS with agenda := [.rx] } : State).agenda = .rx :: [] ∧ recvS.rxReady = true ∧ recvS.rxQ = [] ∧
    ({ waitS with agenda := [.tx .error, .rx] } : State).agenda = .tx .error :: [.rx] ∧ waitS.txValid = false ∧
    ({ sendS with inReset := true, agenda := [.tx .accept] } : State).agenda = .tx .accept :: [] ∧
    ({ sendS with inReset := true } : State).inReset = true ∧ sendS.txValid = true := by decide

theorem witness_ReleasingResetLeavesBlockIdle :
    ({ heldS with agenda := [.releaseReset, .rx] } : State).agenda = .releaseReset :: [.rx] ∧ heldS.inReset = true ∧
    ({ waitS with agenda := [.assertReset, .releaseReset, .rx] } : State).agenda =
      .assertReset :: .releaseReset :: [.rx] := by decide

end Sys2Proof.Tests
end

section
/-! PROOFS of the family 30_encoding.md: which bits of a CMD write take part in it, and the two commands that start nothing,
NOP and the reserved ones (R110 to R113). A command word, as its CMD row or as a WR CMD, is `issueCommand` of its OP behind the
host port's `hostWrite`; each statement follows from what those two do. -/

open Sys2Proof.Machine

namespace Sys2Proof.Claims

/-! The host port and the command words. -/

/-- Outside reset a write has its effect and is answered (40_host_access.md R130). -/
theorem hostWrite_of_not_inReset (f : State → State) {s : State} (h : s.inReset = false) :
    hostWrite f s = .next (respond .done (f s)) := by
  obtain ⟨hr, -⟩ | ⟨-, hw⟩ := hostWrite_cases f s
  · exact absurd (hr.symm.trans h) (by decide)
  · exact hw

theorem exec_wrCmd (v : Word) (s : State) : exec (.wrCmd v) s = hostWrite (issueCommand (v.extractLsb' 0 4)) s := rfl

theorem exec_cmdNop (hi : BitVec 28) (s : State) : exec (.cmdNop hi) s = hostWrite (issueCommand 0x0#4) s := rfl

theorem exec_cmdReserved4to7 (low : BitVec 2) (hi : BitVec 28) (s : State) :
    exec (.cmdReserved4to7 low hi) s = hostWrite (issueCommand (0b01#2 ++ low)) s := rfl

theorem exec_cmdReserved8toF (low : BitVec 3) (hi : BitVec 28) (s : State) :
    exec (.cmdReserved8toF low hi) s = hostWrite (issueCommand (0b1#1 ++ low)) s := rfl

/-- The command word `{hi, op}` has OP `op` (30_encoding.md R110). -/
theorem extractLsb'_commandWord (hi : BitVec 28) (op : BitVec 4) : (hi ++ op : Word).extractLsb' 0 4 = op :=
  BitVec.extractLsb'_append_eq_right

theorem exec_wrCmd_commandWord (hi : BitVec 28) (op : BitVec 4) (s : State) :
    exec (.wrCmd (hi ++ op)) s = hostWrite (issueCommand op) s := by
  rw [exec_wrCmd, extractLsb'_commandWord]

/-! What the two commands do that start nothing. -/

theorem issueCommand_nop (s : State) : issueCommand 0x0#4 s = s := if_pos rfl

/-- A reserved OP is refused before BUSY and TX_LEN are looked at (30_encoding.md R112, 60_exceptions.md R280). -/
theorem issueCommand_reserved {op : BitVec 4} (h : 4 ≤ op.toNat) (s : State) : issueCommand op s = refuseWrite s := by
  have hnop : op ≠ 0x0#4 := by
    rintro rfl
    exact absurd h (by decide)
  have hres : 0x4#4 ≤ op := BitVec.le_def.mpr h
  rw [issueCommand, if_neg hnop, if_pos hres]

theorem four_le_toNat_reserved4to7 (low : BitVec 2) : 4 ≤ (0b01#2 ++ low : BitVec 4).toNat := by
  revert low
  decide

theorem four_le_toNat_reserved8toF (low : BitVec 3) : 4 ≤ (0b1#1 ++ low : BitVec 4).toNat := by
  revert low
  decide

/-- The write of a NOP, whatever word it comes from, only answers the host. -/
theorem hostWrite_nop {s : State} (h : s.inReset = false) :
    hostWrite (issueCommand 0x0#4) s = .next { s with resp := .done } := by
  rw [hostWrite_of_not_inReset _ h, issueCommand_nop]
  rfl

/-- The write of a reserved command, whatever word it comes from, only sets CMD_ERR and answers the host. -/
theorem hostWrite_reserved {s : State} (h : s.inReset = false) {op : BitVec 4} (hop : 4 ≤ op.toNat) :
    hostWrite (issueCommand op) s = .next { s with cmdErr := true, resp := .done } := by
  rw [hostWrite_of_not_inReset _ h, issueCommand_reserved hop]
  rfl

/-! The statements. -/

/-- Settles O4: the outcome is a function of the low four bits alone. -/
theorem commandIgnoresHighBits : Obligations.CommandIgnoresHighBits := by
  intro v w s hlow
  rw [exec_wrCmd, exec_wrCmd, hlow]

/-- Settles O28: the CMD row and WR CMD are both the write of a NOP. -/
theorem nopChangesNothing : Obligations.NopChangesNothing := by
  intro hi s hrun
  constructor
  · rw [exec_cmdNop, hostWrite_nop hrun]
  · rw [exec_wrCmd_commandWord, hostWrite_nop hrun]

/-- Settles O29: both reserved rows and WR CMD are the write of a command whose OP is at least 4. -/
theorem reservedCommandsRefused : Obligations.ReservedCommandsRefused := by
  intro hi s hrun
  refine ⟨fun low => ?_, fun low => ?_, fun op hop => ?_⟩
  · rw [exec_cmdReserved4to7, hostWrite_reserved hrun (four_le_toNat_reserved4to7 low)]
  · rw [exec_cmdReserved8toF, hostWrite_reserved hrun (four_le_toNat_reserved8toF low)]
  · rw [exec_wrCmd_commandWord, hostWrite_reserved hrun hop]

end Sys2Proof.Claims
end

section
/-! PROOFS of the family 40_host_access.md: what the host reads and the register writes do outside reset (R131 to R164). A read
is `hostRead` of its register's word, which answers that word and changes nothing else; a write is `hostWrite` of its store,
behind `unlessBusy` where a running operation refuses it. What is left is where each word holds its fields and what each store
does. -/

open Sys2Proof.Machine

namespace Sys2Proof.Claims

/-! The host port outside reset. -/

/-- Outside reset a read answers the word and changes nothing else (40_host_access.md R130, 20_memory.md R77). -/
theorem hostRead_of_not_inReset (v : Word) {s : State} (h : s.inReset = false) :
    hostRead v s = .next { s with resp := .data v } := by
  obtain ⟨hr, -⟩ | ⟨-, hv⟩ := hostRead_cases v s
  · exact absurd (hr.symm.trans h) (by decide)
  · exact hv

/-- A register of any width reads zero-extended. -/
theorem hostRead_setWidth {w : Nat} (x : BitVec w) {s : State} (h : s.inReset = false) :
    hostRead (x.setWidth 32) s = .next { s with resp := .data (BitVec.ofNat 32 x.toNat) } := by
  rw [hostRead_of_not_inReset _ h, BitVec.ofNat_toNat]

/-- An ignored write only answers the host (10_state.md R23). -/
theorem hostWrite_ignoreWrite {s : State} (h : s.inReset = false) :
    hostWrite ignoreWrite s = .next { s with resp := .done } :=
  hostWrite_of_not_inReset ignoreWrite h

/-- With no operation running the write stores (40_host_access.md R137). -/
theorem hostWrite_unlessBusy_of_not_busy (f : State → State) {s : State} (h : s.inReset = false) (hb : s.busy = false) :
    hostWrite (unlessBusy f) s = .next (respond .done (f s)) := by
  obtain ⟨hb', -⟩ | ⟨-, hf⟩ := unlessBusy_cases f s
  · exact absurd (hb'.symm.trans hb) (by decide)
  · rw [hostWrite_of_not_inReset _ h, hf]

/-- While an operation runs the write only sets CMD_ERR (40_host_access.md R137). -/
theorem hostWrite_unlessBusy_of_busy (f : State → State) {s : State} (h : s.inReset = false) (hb : s.busy = true) :
    hostWrite (unlessBusy f) s = .next { s with cmdErr := true, resp := .done } := by
  obtain ⟨-, hf⟩ | ⟨hb', -⟩ := unlessBusy_cases f s
  · rw [hostWrite_of_not_inReset _ h, hf]
    rfl
  · exact absurd (hb'.symm.trans hb) (by decide)

/-! RD RX_DATA, whose answer depends on BUSY, and WR STATUS. -/

theorem exec_rdRxData_of_not_busy {s : State} (hb : s.busy = false) : exec .rdRxData s = hostRead s.rxDataWord s := by
  change execRdRxData s = _
  simp [execRdRxData, hb]

/-- While an operation runs RX_DATA reads as a drawn byte (40_host_access.md R151; log entry 4). -/
theorem exec_rdRxData_of_busy {s : State} (h : s.inReset = false) (hb : s.busy = true) :
    exec .rdRxData s =
      .next { s with resp := .data (BitVec.ofNat 32 (Config.busyByte s.draws).toNat), draws := s.draws + 1 } := by
  change execRdRxData s = _
  simp [execRdRxData, h, hb, respond, draw]

theorem exec_wrStatus (v : Word) (s : State) : exec (.wrStatus v) s = hostWrite (writeStatus v) s := rfl

/-! The numbers of the codes are those the spec's tables give them. -/

theorem toNat_bits_eq_codeNumber (c : Code) : c.bits.toNat = codeNumber c := by cases c <;> rfl

theorem toNat_bits_eq_opNumber (o : Op) : o.bits.toNat = opNumber o := by cases o <;> rfl

theorem toNat_bits_eq_rxstNumber (x : RxSt) : x.bits.toNat = rxstNumber x := by cases x <;> rfl

theorem toNat_bits_eq_sqstNumber (x : SqSt) : x.bits.toNat = sqstNumber x := by cases x <;> rfl

/-! Where STATUS, CONFIG and STATE hold their fields. -/

/-- The flags of STATUS (40_host_access.md R136). -/
theorem statusWord_flags (s : State) :
    s.statusWord.getLsbD 0 = s.busy ∧ s.statusWord.getLsbD 1 = s.done ∧ s.statusWord.getLsbD 2 = s.cmdErr ∧
    s.statusWord.getLsbD 3 = false := by
  simp only [State.statusWord, BitVec.getLsbD_append, BitVec.getLsbD_ofBool, BitVec.getLsbD_zero]
  simp

/-- The codes of STATUS, each reached by leaving out the parts below it (40_host_access.md R136). -/
theorem statusWord_codes (s : State) :
    s.statusWord.extractLsb' 4 4 = s.result.bits ∧ s.statusWord.extractLsb' 8 4 = s.cause.bits ∧
    s.statusWord.extractLsb' 12 4 = s.op.bits ∧ s.statusWord.extractLsb' 16 16 = 0#16 := by
  simp only [State.statusWord, BitVec.extractLsb'_append_eq_of_le, BitVec.extractLsb'_append_eq_right,
    BitVec.extractLsb'_eq_self, Nat.reduceLeDiff, Nat.reduceSub, and_self]

theorem configWord_ie (s : State) : s.configWord.getLsbD 16 = s.ie := by
  simp only [State.configWord, BitVec.getLsbD_append, BitVec.getLsbD_ofBool]
  simp

/-- The other fields of CONFIG (40_host_access.md R139). -/
theorem configWord_fields (s : State) :
    s.configWord.extractLsb' 0 8 = s.maxAttempts ∧ s.configWord.extractLsb' 8 8 = s.irrBound ∧
    s.configWord.extractLsb' 17 15 = 0#15 := by
  simp only [State.configWord, BitVec.extractLsb'_append_eq_of_le, BitVec.extractLsb'_append_eq_right,
    BitVec.extractLsb'_eq_self, Nat.reduceLeDiff, Nat.reduceSub, and_self]

theorem stateWord_bit3 (s : State) : s.stateWord.getLsbD 3 = false := by
  simp only [State.stateWord, BitVec.getLsbD_append, BitVec.getLsbD_zero]
  simp

/-- The fields of STATE (40_host_access.md R161). -/
theorem stateWord_fields (s : State) :
    s.stateWord.extractLsb' 0 3 = s.rxst.bits ∧ s.stateWord.extractLsb' 4 2 = s.sqst.bits ∧
    s.stateWord.extractLsb' 6 2 = 0#2 ∧ s.stateWord.extractLsb' 8 8 = s.rxXor ∧
    s.stateWord.extractLsb' 16 8 = s.txXor ∧ s.stateWord.extractLsb' 24 4 = s.lcause.bits ∧
    s.stateWord.extractLsb' 28 4 = 0#4 := by
  simp only [State.stateWord, BitVec.extractLsb'_append_eq_of_le, BitVec.extractLsb'_append_eq_right,
    BitVec.extractLsb'_eq_self, Nat.reduceLeDiff, Nat.reduceSub, and_self]

/-! What the data registers show, and what the stores do. -/

/-- A byte that was written reads back. -/
theorem txByte_of_memRead {s : State} {i : Nat} {b : Byte} (h : memRead s.txBuf i = some b) : s.txByte i = b := by
  rw [State.txByte, h, Option.getD_some]

theorem rxDataWord_of_lt {s : State} (h : s.rxIndex.toNat < 65538) :
    s.rxDataWord = (s.rxByte s.rxIndex.toNat).setWidth 32 := if_pos h

theorem rxDataWord_of_le {s : State} (h : 65538 ≤ s.rxIndex.toNat) : s.rxDataWord = 0#32 := if_neg (Nat.not_lt.mpr h)

/-- Each of the two flags stays set unless its bit of the value is (40_host_access.md R138). -/
theorem writeStatus_eq (v : Word) (s : State) :
    writeStatus v s = { s with done := s.done && !v.getLsbD 1, cmdErr := s.cmdErr && !v.getLsbD 2 } := by
  simp [writeStatus, Bool.and_comm]

/-- TX_INDEX advances modulo 65536 (40_host_access.md R146). -/
theorem writeTxData_txIndex_mod (v : Word) (s : State) :
    (writeTxData v s).txIndex = BitVec.ofNat 16 ((s.txIndex.toNat + 1) % 65536) := by
  apply BitVec.eq_of_toNat_eq
  simp

/-- A TX_DATA write changes the byte at TX_INDEX and no other (40_host_access.md R146). -/
theorem writeTxData_txByte (v : Word) (s : State) (j : Nat) :
    (writeTxData v s).txByte j = if j = s.txIndex.toNat then v.extractLsb' 0 8 else s.txByte j :=
  txByte_of_write (writeTxData_txBuf v s) (writeTxData_txEpoch v s) j

/-! The statements. -/

/-- Settles O14: the word read is STATUS. -/
theorem readStatusFields : Obligations.ReadStatusFields := by
  intro s hrun
  obtain ⟨hbusy, hdone, herr, hzero⟩ := statusWord_flags s
  obtain ⟨hresult, hcause, hop, hhigh⟩ := statusWord_codes s
  refine ⟨s.statusWord, hostRead_of_not_inReset _ hrun, hbusy, hdone, herr, hzero, ?_, ?_, ?_, hhigh⟩
  · rw [hresult, toNat_bits_eq_codeNumber]
  · rw [hcause, toNat_bits_eq_codeNumber]
  · rw [hop, toNat_bits_eq_opNumber]

/-- Settles O15: the word read is CONFIG. -/
theorem readConfigFields : Obligations.ReadConfigFields := by
  intro s hrun
  obtain ⟨hattempts, hbound, hhigh⟩ := configWord_fields s
  exact ⟨s.configWord, hostRead_of_not_inReset _ hrun, hattempts, hbound, configWord_ie s, hhigh⟩

/-- Settles O16: the word read is STATE. -/
theorem readStateFields : Obligations.ReadStateFields := by
  intro s hrun
  obtain ⟨hrxst, hsqst, hgap, hrxXor, htxXor, hlcause, hhigh⟩ := stateWord_fields s
  refine ⟨s.stateWord, hostRead_of_not_inReset _ hrun, ?_, stateWord_bit3 s, ?_, hgap, hrxXor, htxXor, ?_, hhigh⟩
  · rw [hrxst, toNat_bits_eq_rxstNumber]
  · rw [hsqst, toNat_bits_eq_sqstNumber]
  · rw [hlcause, toNat_bits_eq_codeNumber]

/-- Settles O17: each of the eight reads is that of a register zero-extended. -/
theorem readCounterRegisters : Obligations.ReadCounterRegisters := fun s hrun =>
  ⟨hostRead_setWidth s.txLen hrun, hostRead_setWidth s.txIndex hrun, hostRead_setWidth s.rxLen hrun,
    hostRead_setWidth s.rxIndex hrun, hostRead_setWidth s.attempts hrun, hostRead_setWidth s.irrCount hrun,
    hostRead_setWidth s.rxPos hrun, hostRead_setWidth s.txPos hrun⟩

/-- Settles O18: the read is that of a byte zero-extended, and TX_BUF shows what was written. -/
theorem readTxData : Obligations.ReadTxData := fun s hrun =>
  ⟨hostRead_setWidth (s.txByte s.txIndex.toNat) hrun, fun _ => txByte_of_memRead⟩

/-- Settles O19: a byte of RX_BUF, 0 past its end, a drawn byte while an operation runs. -/
theorem readRxData : Obligations.ReadRxData := by
  intro s hrun
  refine ⟨fun hidle hlt => ?_, fun hidle hle => ?_, fun hbusy => ⟨_, exec_rdRxData_of_busy hrun hbusy⟩⟩
  · rw [exec_rdRxData_of_not_busy hidle, rxDataWord_of_lt hlt, hostRead_setWidth _ hrun]
  · rw [exec_rdRxData_of_not_busy hidle, rxDataWord_of_le hle, hostRead_of_not_inReset _ hrun]

/-- Settles O21: each of the nine writes is `ignoreWrite`. -/
theorem readOnlyWritesIgnored : Obligations.ReadOnlyWritesIgnored := by
  intro v s hrun i hi
  simp only [List.mem_cons, List.not_mem_nil, or_false] at hi
  rcases hi with rfl | rfl | rfl | rfl | rfl | rfl | rfl | rfl | rfl <;> exact hostWrite_ignoreWrite hrun

/-- Settles O22: the write's effect is that on its two flags. -/
theorem statusWriteClearsFlags : Obligations.StatusWriteClearsFlags := by
  intro v s hrun
  rw [exec_wrStatus, hostWrite_of_not_inReset _ hrun, writeStatus_eq]
  rfl

/-- Settles O23: with no operation running the three writes are their stores, else the refusal. -/
theorem configAndLengthWritesStore : Obligations.ConfigAndLengthWritesStore := by
  intro v s hrun
  refine ⟨fun hidle => ⟨?_, ?_, ?_⟩, fun hbusy i hi => ?_⟩
  · exact hostWrite_unlessBusy_of_not_busy (writeConfig v) hrun hidle
  · exact hostWrite_unlessBusy_of_not_busy (writeTxLen v) hrun hidle
  · exact hostWrite_unlessBusy_of_not_busy (writeTxIndex v) hrun hidle
  · simp only [List.mem_cons, List.not_mem_nil, or_false] at hi
    rcases hi with rfl | rfl | rfl <;> exact hostWrite_unlessBusy_of_busy _ hrun hbusy

/-- Settles O24: with no operation running the write is its store, which changes one byte, else the refusal. -/
theorem txDataWriteStoresByte : Obligations.TxDataWriteStoresByte := by
  intro v s hrun
  refine ⟨fun hidle => ⟨respond .done (writeTxData v s), ?_, ?_, ?_, fun j hj => ?_⟩, fun hbusy => ?_⟩
  · exact hostWrite_unlessBusy_of_not_busy (writeTxData v) hrun hidle
  · rw [← writeTxData_txIndex_mod v s]
    rfl
  · exact (writeTxData_txByte v s _).trans (if_pos rfl)
  · exact (writeTxData_txByte v s j).trans (if_neg hj)
  · exact hostWrite_unlessBusy_of_busy (writeTxData v) hrun hbusy

/-- Settles O25: the write is its store, busy or not. -/
theorem rxIndexWriteStores : Obligations.RxIndexWriteStores := fun v _ hrun =>
  hostWrite_of_not_inReset (writeRxIndex v) hrun

end Sys2Proof.Claims
end

section
/-! PROOFS of the family 60_exceptions.md: the signals the block drives (R283, R46) and the frame it offers (R172). A signal is
a Boolean of the state; `tx_data` is `txFrameByte` at TX_POS, so what is left is that the frame in TX_BUF is `txFrameByte` at
its positions in order. -/

open Sys2Proof.Machine

namespace Sys2Proof.Claims

/-! The signals. -/

theorem irq_iff (s : State) : s.irq = true ↔ s.ie = true ∧ (s.done = true ∨ s.cmdErr = true) := by
  rw [State.irq, Bool.and_eq_true, Bool.or_eq_true]

theorem rxReady_iff (s : State) : s.rxReady = true ↔ s.rxst ≠ .idle := decide_eq_true_iff

theorem txValid_iff (s : State) : s.txValid = true ↔ s.sqst = .xmit := decide_eq_true_iff

theorem txLast_iff (s : State) : s.txLast = true ↔ s.sqst = .xmit ∧ s.txPos.toNat = s.txLen.toNat + 6 := by
  rw [State.txLast, Bool.and_eq_true, txValid_iff, decide_eq_true_iff]

/-- While a byte is on offer `tx_data` is the frame's byte at TX_POS (10_state.md R46). -/
theorem txData_of_xmit {s : State} (h : s.sqst = .xmit) : s.txData = s.txFrameByte s.txPos.toNat :=
  if_pos ((txValid_iff s).mpr h)

/-! The encoder's byte at each position (41_encoder.md R172). -/

theorem map_txFrameByte_header (s : State) : (List.range 4).map s.txFrameByte =
    [Config.preamble1, Config.preamble2, s.txLen.extractLsb' 8 8, s.txLen.extractLsb' 0 8] := rfl

theorem txFrameByte_content {s : State} {i : Nat} (h : i < s.txLen.toNat) : s.txFrameByte (4 + i) = s.txByte i := by
  have hle : 4 + i ≤ s.txLen.toNat + 3 := by omega
  rw [State.txFrameByte, if_neg (by omega), if_neg (by omega), if_neg (by omega), if_neg (by omega), if_pos hle,
    Nat.add_sub_cancel_left]

theorem map_txFrameByte_content (s : State) : ((List.range s.txLen.toNat).map fun i => s.txFrameByte (4 + i)) =
    (List.range s.txLen.toNat).map s.txByte :=
  List.map_congr_left fun _ hi => txFrameByte_content (List.mem_range.mp hi)

/-- Past the content the position is compared with the last three alone. -/
theorem txFrameByte_trailer (s : State) (k : Nat) : s.txFrameByte (s.txLen.toNat + 4 + k) =
    if k = 0 then s.txXorTo s.txLen.toNat else if k = 1 then Config.marker1 else if k = 2 then Config.marker2
    else Config.idleTxData s.draws := by
  have hchecksum : s.txLen.toNat + 4 + k = s.txLen.toNat + 4 ↔ k = 0 := by omega
  have hmarker1 : s.txLen.toNat + 4 + k = s.txLen.toNat + 5 ↔ k = 1 := by omega
  have hmarker2 : s.txLen.toNat + 4 + k = s.txLen.toNat + 6 ↔ k = 2 := by omega
  rw [State.txFrameByte, if_neg (by omega), if_neg (by omega), if_neg (by omega), if_neg (by omega), if_neg (by omega)]
  simp only [hchecksum, hmarker1, hmarker2]

theorem txFrameByte_checksum (s : State) : s.txFrameByte (s.txLen.toNat + 4) = s.txXorTo s.txLen.toNat :=
  txFrameByte_trailer s 0

theorem map_txFrameByte_trailer (s : State) : ((List.range 3).map fun k => s.txFrameByte (s.txLen.toNat + 4 + k)) =
    [s.txXorTo s.txLen.toNat, Config.marker1, Config.marker2] := by
  simp only [txFrameByte_trailer]
  rfl

/-! The frame in TX_BUF, byte for byte. -/

theorem xorBytes_concat (bs : List Byte) (b : Byte) : xorBytes (bs ++ [b]) = xorBytes bs ^^^ b := by
  induction bs with
  | nil => exact BitVec.xor_comm b 0#8
  | cons c bs ih => rw [List.cons_append, xorBytes, ih, xorBytes, BitVec.xor_assoc]

/-- The running XOR is that of the list of bytes (00_scope.md R5). -/
theorem xorBytes_map_txByte (s : State) (n : Nat) : xorBytes ((List.range n).map s.txByte) = s.txXorTo n := by
  induction n with
  | zero => rfl
  | succ n ih => rw [List.range_succ, List.map_append, List.map_singleton, xorBytes_concat, ih, State.txXorTo]

theorem length_txPayload (s : State) : (txPayload s).length = s.txLen.toNat - 1 := by
  rw [txPayload, List.length_map, List.length_range]

/-- Identifier and payload are TX_BUF[0 .. L-1] (10_state.md R40). -/
theorem txByte_zero_cons_txPayload {s : State} (h : 1 ≤ s.txLen.toNat) :
    s.txByte 0 :: txPayload s = (List.range s.txLen.toNat).map s.txByte := by
  obtain ⟨n, hn⟩ := Nat.exists_eq_add_of_le' h
  rw [txPayload, hn, List.range_succ_eq_map, List.map_cons, List.map_map, Nat.add_sub_cancel]
  rfl

/-- The encoder offers the encoding of the frame in TX_BUF, in order (41_encoder.md R172). -/
theorem txFrame_eq_map_txFrameByte {s : State} (h : 1 ≤ s.txLen.toNat) :
    txFrame s = (List.range (s.txLen.toNat + 7)).map s.txFrameByte := by
  have hlen : BitVec.ofNat 16 ((txPayload s).length + 1) = s.txLen := by
    rw [length_txPayload, Nat.sub_add_cancel h, BitVec.ofNat_toNat, BitVec.setWidth_eq]
  calc txFrame s
      = frameBytes (s.txByte 0) (txPayload s) := rfl
    _ = (List.range 4).map s.txFrameByte ++ (List.range s.txLen.toNat).map s.txByte ++
          [s.txXorTo s.txLen.toNat, Config.marker1, Config.marker2] := by
        rw [frameBytes, hlen, txByte_zero_cons_txPayload h, xorBytes_map_txByte, map_txFrameByte_header]
    _ = (List.range (s.txLen.toNat + 4 + 3)).map s.txFrameByte := by
        rw [List.range_add, List.map_append, List.map_map, ← map_txFrameByte_trailer, Nat.add_comm _ 4, List.range_add,
          List.map_append, List.map_map, ← map_txFrameByte_content]
        rfl

theorem length_txFrame {s : State} (h : 1 ≤ s.txLen.toNat) : (txFrame s).length = s.txLen.toNat + 7 := by
  rw [txFrame_eq_map_txFrameByte h, List.length_map, List.length_range]

theorem getElem?_txFrame {s : State} (h : 1 ≤ s.txLen.toNat) {p : Nat} (hp : p < s.txLen.toNat + 7) :
    (txFrame s)[p]? = some (s.txFrameByte p) := by
  rw [txFrame_eq_map_txFrameByte h, List.getElem?_map, List.getElem?_range hp, Option.map_some]

/-- With the content accepted TXXOR sums all of it (41_encoder.md R172). -/
theorem txXor_at_checksum {s : State} (hi : s.ChecksumInv) (h : s.sqst = .xmit) (hp : s.txPos.toNat = s.txLen.toNat + 4) :
    s.txXor = s.txXorTo s.txLen.toNat := by
  rw [hi.tx_xor h, hp, Nat.add_sub_cancel, Nat.min_self]

/-! The statement. -/

/-- Settles O57: each signal is its Boolean of the state, and `tx_data` is the frame's byte at TX_POS, the running checksum at
L + 4. -/
theorem portOutputsFollowState : Obligations.PortOutputsFollowState := by
  intro s
  refine ⟨irq_iff s, rxReady_iff s, txValid_iff s, txLast_iff s, length_txFrame, fun hx hp hl => ?_, fun hi hx hp => ?_⟩
  · rw [getElem?_txFrame hl hp, txData_of_xmit hx]
  · rw [txData_of_xmit hx, txXor_at_checksum hi hx hp, hp, txFrameByte_checksum]

end Sys2Proof.Claims
end

section
/-! PROOFS of the family 'other', the encodings (30_encoding.md): each decoder is the inverse of the encoder. A word of four
bytes is its bytes; a BUS instruction is the read or the write of a register, a CMD instruction the command of a word, a
FRAME_ID instruction that of an identifier, a WIRE instruction a frame, and each of these four is decoded from exactly the
bytes it is encoded to. -/

open Sys2Proof.Machine

namespace Sys2Proof.Claims

/-! Four bytes are a word. -/

theorem toNat_append_byte {n : Nat} (x : BitVec n) (b : Byte) : (x ++ b).toNat = x.toNat * 256 + b.toNat := by
  rw [BitVec.toNat_append, ← Nat.shiftLeft_add_eq_or_of_lt b.isLt, Nat.shiftLeft_eq]

theorem toNat_wordOfBytes (b0 b1 b2 b3 : Byte) :
    (wordOfBytes b0 b1 b2 b3).toNat = b0.toNat + 256 * (b1.toNat + 256 * (b2.toNat + 256 * b3.toNat)) := by
  simp only [wordOfBytes, toNat_append_byte]
  omega

/-- Adding a multiple of 256 does not show in the low byte. -/
theorem lowBytes_succ_byte (n : Nat) (b : Byte) (x : Nat) :
    lowBytes (n + 1) (b.toNat + 256 * x) = b :: lowBytes n x := by
  have hb : b.toNat < 256 := b.isLt
  have hdiv : (b.toNat + 256 * x) / 256 = x := by omega
  have hlow : BitVec.ofNat 8 (b.toNat + 256 * x) = b := BitVec.eq_of_toNat_eq (by simp [hb])
  rw [lowBytes, hdiv, hlow]

theorem lowBytes_wordOfBytes (b0 b1 b2 b3 : Byte) :
    lowBytes 4 (wordOfBytes b0 b1 b2 b3).toNat = [b0, b1, b2, b3] := by
  rw [toNat_wordOfBytes, lowBytes_succ_byte, lowBytes_succ_byte, lowBytes_succ_byte]
  simp [lowBytes]

/-- Every word is some four bytes. -/
theorem exists_wordOfBytes (w : Word) : ∃ b0 b1 b2 b3, w = wordOfBytes b0 b1 b2 b3 := by
  refine ⟨w.extractLsb' 0 8, w.extractLsb' 8 8, w.extractLsb' 16 8, w.extractLsb' 24 8, BitVec.eq_of_toNat_eq ?_⟩
  have hw := w.isLt
  simp only [toNat_wordOfBytes, BitVec.extractLsb'_toNat, Nat.shiftRight_eq_div_pow]
  omega

/-! BUS: the reads and the writes of the sixteen registers. -/

theorem ofIndex_index (r : Reg) : Reg.ofIndex r.index = some r := by cases r <;> rfl

theorem index_lt (r : Reg) : r.index < 16 := by cases r <;> decide

theorem off_lt (r : Reg) : r.off < 64 := by
  have h := index_lt r
  simp only [Reg.off]
  omega

theorem off_injective {r r' : Reg} (h : r.off = r'.off) : r = r' := by
  have hidx : r.index = r'.index := Nat.eq_of_mul_eq_mul_left (by decide : 0 < 4) h
  exact Option.some.inj (by rw [← ofIndex_index r, ← ofIndex_index r', hidx])

theorem ofIndex_eq_some {n : Nat} {r : Reg} (h : Reg.ofIndex n = some r) : n = r.index := by
  unfold Reg.ofIndex at h
  split at h <;> cases h <;> rfl

/-- The instruction of an access to a register (30_encoding.md R114). -/
def accessInstr (d : Dir) (v : Word) (r : Reg) : Instr :=
  match d with
  | .read => readInstr r
  | .write => writeInstr v r

theorem decodeAccess_off (d : Dir) (r : Reg) (v : Word) : decodeAccess d r.off v = .ok (accessInstr d v r) := by
  have hmod : r.off % 4 = 0 := Nat.mul_mod_right 4 r.index
  have hdiv : r.off / 4 = r.index := Nat.mul_div_cancel_left r.index (by decide)
  unfold decodeAccess
  rw [if_pos hmod, hdiv, ofIndex_index]
  cases d <;> rfl

/-- An access that decodes is one to a register's offset (30_encoding.md R114). -/
theorem decodeAccess_eq_ok {d : Dir} {off : Nat} {v : Word} {i : Instr} (h : decodeAccess d off v = .ok i) :
    ∃ r : Reg, off = r.off ∧ i = accessInstr d v r := by
  unfold decodeAccess at h
  split at h
  next hmod =>
    have hoff : ∀ r, Reg.ofIndex (off / 4) = some r → off = r.off := fun r hr => by
      rw [Reg.off, ← ofIndex_eq_some hr, Nat.mul_div_cancel' (Nat.dvd_of_mod_eq_zero hmod)]
    split at h
    next r hr => cases h; exact ⟨r, hoff r hr, rfl⟩
    next r hr => cases h; exact ⟨r, hoff r hr, rfl⟩
    next => cases h
  next => cases h

theorem encode_readInstr (r : Reg) : encode (readInstr r) = readBytes r := by cases r <;> rfl

theorem encode_writeInstr (v : Word) (r : Reg) : encode (writeInstr v r) = writeBytes r v := by cases r <;> rfl

theorem format_readInstr (r : Reg) : (readInstr r).format = .bus := by cases r <;> rfl

theorem format_writeInstr (v : Word) (r : Reg) : (writeInstr v r).format = .bus := by cases r <;> rfl

theorem wellFormed_readInstr (r : Reg) : (readInstr r).wellFormed = true := by cases r <;> rfl

theorem wellFormed_writeInstr (v : Word) (r : Reg) : (writeInstr v r).wellFormed = true := by cases r <;> rfl

/-- Format BUS holds the reads and the writes, and nothing else (30_encoding.md R114). -/
theorem eq_readInstr_or_writeInstr {i : Instr} (h : i.format = .bus) :
    (∃ r, i = readInstr r) ∨ ∃ v r, i = writeInstr v r := by
  cases i with
  | rdId => exact .inl ⟨.id, rfl⟩
  | rdCmd => exact .inl ⟨.cmd, rfl⟩
  | rdStatus => exact .inl ⟨.status, rfl⟩
  | rdConfig => exact .inl ⟨.config, rfl⟩
  | rdTxLen => exact .inl ⟨.txLen, rfl⟩
  | rdTxIndex => exact .inl ⟨.txIndex, rfl⟩
  | rdTxData => exact .inl ⟨.txData, rfl⟩
  | rdRxLen => exact .inl ⟨.rxLen, rfl⟩
  | rdRxIndex => exact .inl ⟨.rxIndex, rfl⟩
  | rdRxData => exact .inl ⟨.rxData, rfl⟩
  | rdAttempts => exact .inl ⟨.attempts, rfl⟩
  | rdIrrCount => exact .inl ⟨.irrCount, rfl⟩
  | rdRxPos => exact .inl ⟨.rxPos, rfl⟩
  | rdTxPos => exact .inl ⟨.txPos, rfl⟩
  | rdState => exact .inl ⟨.state, rfl⟩
  | rdReserved3C => exact .inl ⟨.reserved3C, rfl⟩
  | wrId v => exact .inr ⟨v, .id, rfl⟩
  | wrCmd v => exact .inr ⟨v, .cmd, rfl⟩
  | wrStatus v => exact .inr ⟨v, .status, rfl⟩
  | wrConfig v => exact .inr ⟨v, .config, rfl⟩
  | wrTxLen v => exact .inr ⟨v, .txLen, rfl⟩
  | wrTxIndex v => exact .inr ⟨v, .txIndex, rfl⟩
  | wrTxData v => exact .inr ⟨v, .txData, rfl⟩
  | wrRxLen v => exact .inr ⟨v, .rxLen, rfl⟩
  | wrRxIndex v => exact .inr ⟨v, .rxIndex, rfl⟩
  | wrRxData v => exact .inr ⟨v, .rxData, rfl⟩
  | wrAttempts v => exact .inr ⟨v, .attempts, rfl⟩
  | wrIrrCount v => exact .inr ⟨v, .irrCount, rfl⟩
  | wrRxPos v => exact .inr ⟨v, .rxPos, rfl⟩
  | wrTxPos v => exact .inr ⟨v, .txPos, rfl⟩
  | wrState v => exact .inr ⟨v, .state, rfl⟩
  | wrReserved3C v => exact .inr ⟨v, .reserved3C, rfl⟩
  | _ => cases h

/-- A register's offset as the low bits of a key. -/
theorem toNat_readKey (r : Reg) : (BitVec.ofNat 8 r.off).toNat = r.off := by
  have h := off_lt r
  simp only [BitVec.toNat_ofNat]
  omega

theorem toNat_writeKey (r : Reg) : (BitVec.ofNat 8 (64 + r.off)).toNat = 64 + r.off := by
  have h := off_lt r
  simp only [BitVec.toNat_ofNat]
  omega

theorem decodeBus_readBytes (r : Reg) (rest : List Byte) : decodeBus (readBytes r ++ rest) = .ok (readInstr r, rest) := by
  have h := off_lt r
  simp only [readBytes, List.singleton_append, decodeBus, toNat_readKey]
  rw [if_neg (by omega), if_pos h, Nat.mod_eq_of_lt h, decodeAccess_off]
  rfl

theorem decodeBus_writeBytes (r : Reg) (v : Word) (rest : List Byte) :
    decodeBus (writeBytes r v ++ rest) = .ok (writeInstr v r, rest) := by
  obtain ⟨b0, b1, b2, b3, rfl⟩ := exists_wordOfBytes v
  have h := off_lt r
  have hmod : (64 + r.off) % 64 = r.off := by omega
  simp only [writeBytes, lowBytes_wordOfBytes, List.cons_append, List.nil_append, decodeBus, toNat_writeKey]
  rw [if_neg (by omega), if_neg (by omega), hmod, decodeAccess_off]
  rfl

/-- A key is the byte of its number. -/
theorem eq_ofNat_of_toNat {key : Byte} {n : Nat} (h : key.toNat = n) : key = BitVec.ofNat 8 n := by
  rw [← h, BitVec.ofNat_toNat, BitVec.setWidth_eq]

/-- A decoder's answer with the rest attached comes from its answer. -/
theorem exceptMap_pair_eq_ok {x : Except DecodeError Instr} {tail rest : List Byte} {i : Instr}
    (h : x.map (·, tail) = .ok (i, rest)) : x = .ok i ∧ tail = rest := by
  cases x with
  | error e => cases h
  | ok j => cases h; exact ⟨rfl, rfl⟩

theorem decodeBus_eq_ok {bytes rest : List Byte} {i : Instr} (h : decodeBus bytes = .ok (i, rest)) :
    (∃ r, i = readInstr r ∧ bytes = readBytes r ++ rest) ∨
    (∃ v r, i = writeInstr v r ∧ bytes = writeBytes r v ++ rest) := by
  cases bytes with
  | nil => cases h
  | cons key tail =>
    simp only [decodeBus] at h
    split at h
    next => cases h
    split at h
    next _ hread =>
      obtain ⟨hd, rfl⟩ := exceptMap_pair_eq_ok h
      obtain ⟨r, hoff, rfl⟩ := decodeAccess_eq_ok hd
      rw [Nat.mod_eq_of_lt hread] at hoff
      exact .inl ⟨r, rfl, by rw [readBytes, eq_ofNat_of_toNat hoff]; rfl⟩
    next _ hwrite =>
      split at h
      next b0 b1 b2 b3 tail' =>
        obtain ⟨hd, rfl⟩ := exceptMap_pair_eq_ok h
        obtain ⟨r, hoff, rfl⟩ := decodeAccess_eq_ok hd
        have hkey : key.toNat = 64 + r.off := by omega
        exact .inr ⟨_, r, rfl, by rw [writeBytes, lowBytes_wordOfBytes, eq_ofNat_of_toNat hkey]; rfl⟩
      next => cases h

/-! CMD: the command of a word. -/

/-- The command of code `op` with the ignored bits `hi` (30_encoding.md R110, R112). -/
def commandInstr (hi : BitVec 28) (op : BitVec 4) : Instr :=
  if op = 0x0#4 then .cmdNop hi
  else if op = 0x1#4 then .cmdRecv hi
  else if op = 0x2#4 then .cmdXmit hi
  else if op = 0x3#4 then .cmdSend hi
  else if op < 0x8#4 then .cmdReserved4to7 (op.extractLsb' 0 2) hi
  else .cmdReserved8toF (op.extractLsb' 0 3) hi

/-- Every word is `{hi, op}`, and what it decodes to is the command of these parts. -/
theorem decodeCommand_commandWord (hi : BitVec 28) (op : BitVec 4) :
    decodeCommand (hi ++ op : Word) = commandInstr hi op := by
  have hhi : (hi ++ op : Word).extractLsb' 4 28 = hi := by
    rw [BitVec.extractLsb'_append_eq_of_le (by decide), BitVec.extractLsb'_eq_self]
  change commandInstr ((hi ++ op : Word).extractLsb' 4 28) ((hi ++ op : Word).extractLsb' 0 4) = _
  rw [hhi, extractLsb'_commandWord]

theorem exists_commandWord (w : Word) : ∃ (hi : BitVec 28) (op : BitVec 4), w = hi ++ op :=
  ⟨w.extractLsb' 4 28, w.extractLsb' 0 4, by
    rw [BitVec.extractLsb'_append_extractLsb'_eq_extractLsb' (by rfl), BitVec.extractLsb'_eq_self]⟩

theorem commandInstr_reserved4to7 (hi : BitVec 28) (low : BitVec 2) :
    commandInstr hi (0b01#2 ++ low) = .cmdReserved4to7 low hi := by
  match low with
  | 0#2 | 1#2 | 2#2 | 3#2 => rfl

theorem commandInstr_reserved8toF (hi : BitVec 28) (low : BitVec 3) :
    commandInstr hi (0b1#1 ++ low) = .cmdReserved8toF low hi := by
  match low with
  | 0#3 | 1#3 | 2#3 | 3#3 | 4#3 | 5#3 | 6#3 | 7#3 => rfl

/-- The six rows of format CMD by their OP (30_encoding.md R110, R112). -/
theorem commandInstr_cases (hi : BitVec 28) (op : BitVec 4) :
    (op = 0x0#4 ∧ commandInstr hi op = .cmdNop hi) ∨ (op = 0x1#4 ∧ commandInstr hi op = .cmdRecv hi) ∨
    (op = 0x2#4 ∧ commandInstr hi op = .cmdXmit hi) ∨ (op = 0x3#4 ∧ commandInstr hi op = .cmdSend hi) ∨
    (∃ low, op = 0b01#2 ++ low ∧ commandInstr hi op = .cmdReserved4to7 low hi) ∨
    (∃ low, op = 0b1#1 ++ low ∧ commandInstr hi op = .cmdReserved8toF low hi) := by
  have hop : ∀ op : BitVec 4, op = 0x0#4 ∨ op = 0x1#4 ∨ op = 0x2#4 ∨ op = 0x3#4 ∨
      (∃ low : BitVec 2, op = 0b01#2 ++ low) ∨ ∃ low : BitVec 3, op = 0b1#1 ++ low := by decide
  obtain rfl | rfl | rfl | rfl | ⟨low, rfl⟩ | ⟨low, rfl⟩ := hop op
  · exact .inl ⟨rfl, rfl⟩
  · exact .inr (.inl ⟨rfl, rfl⟩)
  · exact .inr (.inr (.inl ⟨rfl, rfl⟩))
  · exact .inr (.inr (.inr (.inl ⟨rfl, rfl⟩)))
  · exact .inr (.inr (.inr (.inr (.inl ⟨low, rfl, commandInstr_reserved4to7 hi low⟩))))
  · exact .inr (.inr (.inr (.inr (.inr ⟨low, rfl, commandInstr_reserved8toF hi low⟩))))

theorem encode_commandInstr (hi : BitVec 28) (op : BitVec 4) : encode (commandInstr hi op) = commandBytes op hi := by
  obtain ⟨rfl, h⟩ | ⟨rfl, h⟩ | ⟨rfl, h⟩ | ⟨rfl, h⟩ | ⟨low, rfl, h⟩ | ⟨low, rfl, h⟩ := commandInstr_cases hi op
  all_goals rw [h]; rfl

theorem format_commandInstr (hi : BitVec 28) (op : BitVec 4) : (commandInstr hi op).format = .cmd := by
  obtain ⟨-, h⟩ | ⟨-, h⟩ | ⟨-, h⟩ | ⟨-, h⟩ | ⟨low, -, h⟩ | ⟨low, -, h⟩ := commandInstr_cases hi op
  all_goals rw [h]; rfl

theorem wellFormed_commandInstr (hi : BitVec 28) (op : BitVec 4) : (commandInstr hi op).wellFormed = true := by
  obtain ⟨-, h⟩ | ⟨-, h⟩ | ⟨-, h⟩ | ⟨-, h⟩ | ⟨low, -, h⟩ | ⟨low, -, h⟩ := commandInstr_cases hi op
  all_goals rw [h]; rfl

/-- Format CMD holds the commands, and nothing else (30_encoding.md R110). -/
theorem eq_commandInstr {i : Instr} (h : i.format = .cmd) : ∃ hi op, i = commandInstr hi op := by
  cases i with
  | cmdNop hi => exact ⟨hi, 0x0#4, rfl⟩
  | cmdRecv hi => exact ⟨hi, 0x1#4, rfl⟩
  | cmdXmit hi => exact ⟨hi, 0x2#4, rfl⟩
  | cmdSend hi => exact ⟨hi, 0x3#4, rfl⟩
  | cmdReserved4to7 low hi => exact ⟨hi, _, (commandInstr_reserved4to7 hi low).symm⟩
  | cmdReserved8toF low hi => exact ⟨hi, _, (commandInstr_reserved8toF hi low).symm⟩
  | _ => cases h

theorem decode_cmd_commandBytes (hi : BitVec 28) (op : BitVec 4) (rest : List Byte) :
    decode .cmd (commandBytes op hi ++ rest) = .ok (commandInstr hi op, rest) := by
  obtain ⟨b0, b1, b2, b3, hw⟩ := exists_wordOfBytes (hi ++ op)
  rw [commandBytes, hw, lowBytes_wordOfBytes, ← decodeCommand_commandWord, hw]
  rfl

theorem decode_cmd_eq_ok {bytes rest : List Byte} {i : Instr} (h : decode .cmd bytes = .ok (i, rest)) :
    ∃ hi op, i = commandInstr hi op ∧ bytes = commandBytes op hi ++ rest := by
  match bytes, h with
  | b0 :: b1 :: b2 :: b3 :: tail, h =>
    cases h
    obtain ⟨hi, op, hw⟩ := exists_commandWord (wordOfBytes b0 b1 b2 b3)
    refine ⟨hi, op, by rw [hw, decodeCommand_commandWord], ?_⟩
    rw [commandBytes, ← hw, lowBytes_wordOfBytes]
    rfl

/-! FRAME_ID: the row of an identifier. -/

theorem decodeFrameId_cases (b : Byte) :
    (b = Config.ackId ∧ decodeFrameId b = .frameAck) ∨ (b = Config.nackId ∧ decodeFrameId b = .frameNack) ∨
    ((b ≠ Config.ackId ∧ b ≠ Config.nackId) ∧ decodeFrameId b = .frameOtherId b) := by
  unfold decodeFrameId
  by_cases hack : b = Config.ackId
  · exact .inl ⟨hack, if_pos hack⟩
  by_cases hnack : b = Config.nackId
  · exact .inr (.inl ⟨hnack, by rw [if_neg hack, if_pos hnack]⟩)
  · exact .inr (.inr ⟨⟨hack, hnack⟩, by rw [if_neg hack, if_neg hnack]⟩)

theorem encode_decodeFrameId (b : Byte) : encode (decodeFrameId b) = [b] := by
  obtain ⟨rfl, h⟩ | ⟨rfl, h⟩ | ⟨-, h⟩ := decodeFrameId_cases b
  all_goals rw [h]; rfl

theorem format_decodeFrameId (b : Byte) : (decodeFrameId b).format = .frameId := by
  obtain ⟨-, h⟩ | ⟨-, h⟩ | ⟨-, h⟩ := decodeFrameId_cases b
  all_goals rw [h]; rfl

theorem wellFormed_decodeFrameId (b : Byte) : (decodeFrameId b).wellFormed = true := by
  obtain ⟨-, h⟩ | ⟨-, h⟩ | ⟨⟨hack, hnack⟩, h⟩ := decodeFrameId_cases b
  · rw [h]; rfl
  · rw [h]; rfl
  · simp [h, Instr.wellFormed, hack, hnack]

/-- Format FRAME_ID holds the rows of the identifiers, each under the identifiers it is well-formed for (43_sequencer.md R237). -/
theorem eq_decodeFrameId {i : Instr} (h : i.format = .frameId) (hw : i.wellFormed = true) : ∃ b, i = decodeFrameId b := by
  cases i with
  | frameAck => exact ⟨Config.ackId, rfl⟩
  | frameNack => exact ⟨Config.nackId, rfl⟩
  | frameOtherId b =>
    obtain ⟨hack, hnack⟩ : b ≠ Config.ackId ∧ b ≠ Config.nackId := by simpa [Instr.wellFormed] using hw
    exact ⟨b, by rw [decodeFrameId, if_neg hack, if_neg hnack]⟩
  | _ => cases h

/-! WIRE: a frame. -/

/-- The two length bytes are the two halves of L (30_encoding.md R101). -/
theorem append_extractLsb'_halves (w : BitVec 16) : (w.extractLsb' 8 8 ++ w.extractLsb' 0 8 : BitVec 16) = w := by
  rw [BitVec.extractLsb'_append_extractLsb'_eq_extractLsb' (by rfl), BitVec.extractLsb'_eq_self]

theorem extractLsb'_append_high (h l : Byte) : (h ++ l : BitVec 16).extractLsb' 8 8 = h := by
  rw [BitVec.extractLsb'_append_eq_of_le (by decide), BitVec.extractLsb'_eq_self]

theorem extractLsb'_append_low (h l : Byte) : (h ++ l : BitVec 16).extractLsb' 0 8 = l :=
  BitVec.extractLsb'_append_eq_right

/-- A frame's bytes with L in two named bytes (30_encoding.md R100). -/
theorem frameBytes_eq {h l ident : Byte} {payload : List Byte} (hl : (h ++ l : BitVec 16).toNat = payload.length + 1) :
    frameBytes ident payload = Config.preamble1 :: Config.preamble2 :: h :: l :: (ident :: payload ++
      [xorBytes (ident :: payload), Config.marker1, Config.marker2]) := by
  have hlen : BitVec.ofNat 16 (payload.length + 1) = h ++ l := by rw [← hl, BitVec.ofNat_toNat, BitVec.setWidth_eq]
  simp only [frameBytes, hlen, extractLsb'_append_high, extractLsb'_append_low]
  rfl

/-- A payload within R103's limit has its length in two bytes (30_encoding.md R101, R103). -/
theorem exists_lengthBytes {payload : List Byte} (hp : payload.length ≤ maxPayload) :
    ∃ h l : Byte, (h ++ l : BitVec 16).toNat = payload.length + 1 := by
  refine ⟨(BitVec.ofNat 16 (payload.length + 1)).extractLsb' 8 8, (BitVec.ofNat 16 (payload.length + 1)).extractLsb' 0 8, ?_⟩
  simp only [maxPayload] at hp
  rw [append_extractLsb'_halves, BitVec.toNat_ofNat]
  omega

theorem decodeBody_eq_ok_iff {content tail rest : List Byte} {i : Instr} : decodeBody content tail = .ok (i, rest) ↔
    ∃ ident payload, content = ident :: payload ∧ i = .frame ident payload ∧
      tail = [xorBytes content, Config.marker1, Config.marker2] ++ rest := by
  constructor
  · intro h
    unfold decodeBody at h
    split at h
    next ident payload c e1 e2 tail' =>
      split at h
      next => cases h
      next hmarker =>
        split at h
        next => cases h
        next hsum =>
          cases h
          obtain ⟨rfl, rfl⟩ : e1 = Config.marker1 ∧ e2 = Config.marker2 := by simpa [not_or] using hmarker
          exact ⟨ident, payload, rfl, rfl, by rw [Decidable.not_not.mp hsum]; rfl⟩
    next => cases h
  · rintro ⟨ident, payload, rfl, rfl, rfl⟩
    simp [decodeBody]

/-- A wire that starts with a preamble and a length and holds the body is decoded by its body. -/
theorem decodeWire_eq_ok_iff {p1 p2 h l : Byte} {tail rest : List Byte} {i : Instr} :
    decodeWire (p1 :: p2 :: h :: l :: tail) = .ok (i, rest) ↔
      (p1 = Config.preamble1 ∧ p2 = Config.preamble2) ∧ (h ++ l : BitVec 16).toNat ≠ 0 ∧
      (h ++ l : BitVec 16).toNat + 3 ≤ tail.length ∧
      decodeBody (tail.take (h ++ l : BitVec 16).toNat) (tail.drop (h ++ l : BitVec 16).toNat) = .ok (i, rest) := by
  simp only [decodeWire]
  split
  next hp => exact ⟨(nomatch ·), fun ⟨⟨h1, h2⟩, _⟩ => (hp.elim (· h1) (· h2)).elim⟩
  next hp =>
    have hp : p1 = Config.preamble1 ∧ p2 = Config.preamble2 := by simpa [not_or] using hp
    split
    next hz => exact ⟨(nomatch ·), fun ⟨_, hnz, _⟩ => absurd hz hnz⟩
    next hnz =>
      split
      next hshort => exact ⟨(nomatch ·), fun ⟨_, _, hlong, _⟩ => absurd hlong (Nat.not_le.mpr hshort)⟩
      next hlong => exact ⟨fun hd => ⟨hp, hnz, Nat.not_lt.mp hlong, hd⟩, fun ⟨_, _, _, hd⟩ => hd⟩

theorem decodeWire_frameBytes {ident : Byte} {payload : List Byte} (hp : payload.length ≤ maxPayload) (rest : List Byte) :
    decodeWire (frameBytes ident payload ++ rest) = .ok (.frame ident payload, rest) := by
  obtain ⟨h, l, hl⟩ := exists_lengthBytes hp
  rw [frameBytes_eq hl]
  refine (decodeWire_eq_ok_iff (tail := (ident :: payload ++ _) ++ rest)).mpr ⟨⟨rfl, rfl⟩, by omega, ?_, ?_⟩
  · simp [hl]
  · rw [hl, ← List.length_cons (a := ident), List.append_assoc, List.take_left, List.drop_left]
    exact decodeBody_eq_ok_iff.mpr ⟨ident, payload, rfl, rfl, rfl⟩

theorem decodeWire_eq_ok {bytes rest : List Byte} {i : Instr} (h : decodeWire bytes = .ok (i, rest)) :
    ∃ ident payload, i = .frame ident payload ∧ payload.length ≤ maxPayload ∧ bytes = frameBytes ident payload ++ rest := by
  match bytes, h with
  | p1 :: p2 :: bh :: bl :: tail, h =>
    obtain ⟨⟨rfl, rfl⟩, -, hlong, hbody⟩ := decodeWire_eq_ok_iff.mp h
    obtain ⟨ident, payload, hcontent, rfl, htail⟩ := decodeBody_eq_ok_iff.mp hbody
    have hlen : (bh ++ bl : BitVec 16).toNat = payload.length + 1 := by
      have := congrArg List.length hcontent
      rw [List.length_take, List.length_cons] at this
      omega
    have hlt := (bh ++ bl : BitVec 16).isLt
    refine ⟨ident, payload, rfl, by simp only [maxPayload]; omega, ?_⟩
    have hsplit := List.take_append_drop (bh ++ bl : BitVec 16).toNat tail
    rw [htail, hcontent] at hsplit
    rw [frameBytes_eq hlen, ← hsplit]
    simp

/-! The statements. -/

/-- Settles O1: each format's decoder reads back what its row is encoded to. -/
theorem decodeEncodeAgree : Obligations.DecodeEncodeAgree := by
  intro i hw rest
  cases hf : i.format with
  | bus =>
    obtain ⟨r, rfl⟩ | ⟨v, r, rfl⟩ := eq_readInstr_or_writeInstr hf
    · rw [encode_readInstr]; exact decodeBus_readBytes r rest
    · rw [encode_writeInstr]; exact decodeBus_writeBytes r v rest
  | cmd =>
    obtain ⟨hi, op, rfl⟩ := eq_commandInstr hf
    rw [encode_commandInstr, decode_cmd_commandBytes]
  | wire =>
    cases i with
    | frame ident payload => exact decodeWire_frameBytes (of_decide_eq_true hw) rest
    | _ => cases hf
  | frameId =>
    obtain ⟨b, rfl⟩ := eq_decodeFrameId hf hw
    rw [encode_decodeFrameId]
    rfl

/-- Settles O2: bytes that a format's decoder takes are those its row is encoded to. -/
theorem decodeYieldsOnlyEncodings : Obligations.DecodeYieldsOnlyEncodings := by
  intro f bytes rest i h
  cases f with
  | bus =>
    obtain ⟨r, rfl, rfl⟩ | ⟨v, r, rfl, rfl⟩ := decodeBus_eq_ok h
    · exact ⟨wellFormed_readInstr r, format_readInstr r, by rw [encode_readInstr]⟩
    · exact ⟨wellFormed_writeInstr v r, format_writeInstr v r, by rw [encode_writeInstr]⟩
  | cmd =>
    obtain ⟨hi, op, rfl, rfl⟩ := decode_cmd_eq_ok h
    exact ⟨wellFormed_commandInstr hi op, format_commandInstr hi op, by rw [encode_commandInstr]⟩
  | wire =>
    obtain ⟨ident, payload, rfl, hp, rfl⟩ := decodeWire_eq_ok h
    exact ⟨decide_eq_true hp, rfl, rfl⟩
  | frameId =>
    match bytes, h with
    | b :: tail, h =>
      cases h
      exact ⟨wellFormed_decodeFrameId b, format_decodeFrameId b, by rw [encode_decodeFrameId]; rfl⟩

/-- Settles O3: each word is decoded by evaluation. -/
theorem decodeReadsSpecWords : Obligations.DecodeReadsSpecWords := by
  refine ⟨rfl, rfl, rfl, rfl, rfl, rfl, rfl, rfl, rfl, rfl⟩

end Sys2Proof.Claims
end

section
/-! PROOFS of the family 'other', the host port (20_memory.md sections 3 and 4, 40_host_access.md): the access that presents an
instruction, and what each access does. A read of any register only answers, a write of a register is `hostWrite` of that
register's effect, and a command word is a CMD write. -/

open Sys2Proof.Machine

namespace Sys2Proof.Claims

/-! A step takes the first turn. -/

theorem step_of_agenda {s : State} {turn : Turn} {rest : List Turn} (h : s.agenda = turn :: rest) :
    step s = takeTurn turn (setAgenda rest s) := by
  obtain ⟨hnil, -⟩ | ⟨_, _, hcons, hstep⟩ := step_cases s
  · cases h.symm.trans hnil
  · cases h.symm.trans hcons
    exact hstep

theorem step_host {s : State} {a : Access} {rest : List Turn} (h : s.agenda = .host a :: rest) :
    step s = hostTurn a (setAgenda rest s) :=
  step_of_agenda h

/-! The access of an instruction (30_encoding.md R114). -/

/-- The access of one word at a register. -/
def wordAccess (d : Dir) (r : Reg) (v : Word) : Access := { dir := d, off := r.off, width := 4, data := v }

theorem hostTurn_wordAccess (d : Dir) (r : Reg) (v : Word) (s : State) :
    hostTurn (wordAccess d r v) s = exec (accessInstr d v r) s := by
  have hwindow : ¬ Config.windowSize ≤ r.off := Nat.not_le.mpr (off_lt r)
  have haligned : ¬ (r.off % 4 ≠ 0 ∨ (4 : Nat) ≠ 4) := by simp [Reg.off]
  unfold hostTurn wordAccess
  rw [if_neg hwindow, if_neg haligned, decodeAccess_off]

/-- An admitted access is one of a word at a register (20_memory.md R74). -/
theorem exists_eq_wordAccess {a : Access} (hoff : a.off < 64) (hmod : a.off % 4 = 0) (hwidth : a.width = 4) :
    ∃ r, a = wordAccess a.dir r a.data := by
  obtain ⟨hout, -⟩ | ⟨⟨-, hbad⟩, -⟩ | ⟨-, r, hr, -⟩ := hostTurn_cases a State.reset
  · exact absurd hoff (Nat.not_lt.mpr hout)
  · exact (hbad.elim (· hmod) (· hwidth)).elim
  · exact ⟨r, by rw [wordAccess, ← hr, ← hwidth]⟩

theorem accessOf_readInstr (r : Reg) : accessOf (readInstr r) = some (wordAccess .read r 0#32) := by
  simp only [accessOf, format_readInstr, encode_readInstr, readBytes, toNat_readKey, wordAccess]

theorem accessOf_writeInstr (v : Word) (r : Reg) : accessOf (writeInstr v r) = some (wordAccess .write r v) := by
  obtain ⟨b0, b1, b2, b3, rfl⟩ := exists_wordOfBytes v
  have hoff : (64 + r.off) % 64 = r.off := by have := off_lt r; omega
  simp only [accessOf, format_writeInstr, encode_writeInstr, writeBytes, lowBytes_wordOfBytes, toNat_writeKey, hoff,
    wordAccess]

theorem accessOf_commandInstr (hi : BitVec 28) (op : BitVec 4) :
    accessOf (commandInstr hi op) = some (wordAccess .write .cmd (hi ++ op)) := by
  obtain ⟨b0, b1, b2, b3, hw⟩ := exists_wordOfBytes (hi ++ op)
  simp only [accessOf, format_commandInstr, encode_commandInstr, commandBytes, hw, lowBytes_wordOfBytes, wordAccess]

/-- Only a BUS or a CMD instruction has an access. -/
theorem format_of_accessOf {i : Instr} {a : Access} (h : accessOf i = some a) : i.format = .bus ∨ i.format = .cmd := by
  unfold accessOf at h
  split at h
  next hf _ => exact .inl hf
  next hf _ => exact .inl hf
  next hf _ => exact .inr hf
  next => cases h

/-! What a command word does (30_encoding.md R110). -/

theorem exec_commandInstr (hi : BitVec 28) (op : BitVec 4) (s : State) :
    exec (commandInstr hi op) s = hostWrite (issueCommand op) s := by
  obtain ⟨rfl, h⟩ | ⟨rfl, h⟩ | ⟨rfl, h⟩ | ⟨rfl, h⟩ | ⟨low, rfl, h⟩ | ⟨low, rfl, h⟩ := commandInstr_cases hi op
  all_goals rw [h]; rfl

theorem exec_decodeCommand (v : Word) (s : State) : exec (decodeCommand v) s = exec (.wrCmd v) s := by
  obtain ⟨hi, op, rfl⟩ := exists_commandWord v
  rw [decodeCommand_commandWord, exec_commandInstr, exec_wrCmd_commandWord]

/-! What a read does. -/

/-- Any read answers a word, and draws at most one free value (20_memory.md R77). -/
theorem exec_readInstr (r : Reg) (s : State) : ∃ (v : Word) (d : Nat), s.draws ≤ d ∧
    exec (readInstr r) s = .next { s with resp := .data v, draws := d } := by
  have read : ∀ w : Word, ∃ (v : Word) (d : Nat), s.draws ≤ d ∧ hostRead w s = .next { s with resp := .data v, draws := d } := by
    intro w
    obtain ⟨-, h⟩ | ⟨-, h⟩ := hostRead_cases w s
    · exact ⟨_, s.draws + 1, Nat.le_succ _, h⟩
    · exact ⟨w, s.draws, Nat.le_refl _, h⟩
  cases r with
  | id => exact ⟨Config.idValue, s.draws, Nat.le_refl _, rfl⟩
  | rxData =>
    change ∃ v d, s.draws ≤ d ∧ execRdRxData s = _
    unfold execRdRxData
    split
    · exact ⟨_, s.draws + 1, Nat.le_succ _, rfl⟩
    · exact read _
  | _ => exact read _

/-! What a write does. -/

/-- What an admitted write of a register does outside reset (40_host_access.md R132 to R164). -/
def writeEffect (v : Word) : Reg → State → State
  | .cmd => issueCommand (v.extractLsb' 0 4)
  | .status => writeStatus v
  | .config => unlessBusy (writeConfig v)
  | .txLen => unlessBusy (writeTxLen v)
  | .txIndex => unlessBusy (writeTxIndex v)
  | .txData => unlessBusy (writeTxData v)
  | .rxIndex => writeRxIndex v
  | .id | .rxLen | .rxData | .attempts | .irrCount | .rxPos | .txPos | .state | .reserved3C => ignoreWrite

theorem exec_writeInstr (v : Word) (r : Reg) (s : State) : exec (writeInstr v r) s = hostWrite (writeEffect v r) s := by
  cases r <;> rfl

/-- A host access is answered without the block, is a read, or is a write of a register. -/
theorem hostTurn_eq (a : Access) (s : State) :
    (∃ x, (∀ d r v, a ≠ wordAccess d r v) ∧ hostTurn a s = .next { s with resp := x }) ∨
    (∃ r v w d, a = wordAccess .read r v ∧ hostTurn a s = .next { s with resp := .data w, draws := d }) ∨
    (∃ r v, a = wordAccess .write r v ∧ hostTurn a s = hostWrite (writeEffect v r) s) := by
  obtain ⟨hout, h⟩ | ⟨⟨-, hbad⟩, h⟩ | ⟨⟨hin, hmod, hwidth⟩, -⟩ := hostTurn_cases a s
  · refine .inl ⟨_, ?_, h⟩
    rintro d r v rfl
    exact absurd (off_lt r) (Nat.not_lt.mpr hout)
  · refine .inl ⟨_, ?_, h⟩
    rintro d r v rfl
    exact hbad.elim (· (Nat.mul_mod_right 4 r.index)) (· rfl)
  · obtain ⟨r, ha⟩ := exists_eq_wordAccess hin hmod hwidth
    rw [ha, hostTurn_wordAccess]
    cases a.dir with
    | read =>
      obtain ⟨w, d, -, hexec⟩ := exec_readInstr r s
      exact .inr (.inl ⟨r, a.data, w, d, rfl, hexec⟩)
    | write => exact .inr (.inr ⟨r, a.data, rfl, exec_writeInstr a.data r s⟩)

/-! What an accepted or refused command does. -/

theorem hostWrite_refused {f : State → State} {s : State} (h : s.inReset = false) (hf : f s = refuseWrite s) :
    hostWrite f s = .next { s with cmdErr := true, resp := .done } := by
  rw [hostWrite_of_not_inReset _ h, hf]
  rfl

theorem issueCommand_of_busy {op : BitVec 4} {s : State} (hop : op ≠ 0x0#4) (h : s.busy = true) :
    issueCommand op s = refuseWrite s := by
  unfold issueCommand
  rw [if_neg hop, h]
  exact ite_self _

/-- XMIT and SEND need a frame in TX_BUF (40_host_access.md R134). -/
theorem issueCommand_of_empty {op : BitVec 4} {s : State} (hop : op = 0x2#4 ∨ op = 0x3#4) (h : s.txLen = 0) :
    issueCommand op s = refuseWrite s := by
  obtain rfl | rfl := hop <;> simp [issueCommand, h]

theorem issueCommand_recv {s : State} (h : s.busy = false) : issueCommand 0x1#4 s = startReceive (accept .recv s) := by
  simp [issueCommand, h]

theorem issueCommand_xmit {s : State} (h : s.busy = false) (hl : s.txLen ≠ 0) :
    issueCommand 0x2#4 s = startTransmit (accept .xmit s) := by
  have hl : ¬ s.txLen = 0#16 := hl
  simp [issueCommand, h, hl]

theorem issueCommand_send {s : State} (h : s.busy = false) (hl : s.txLen ≠ 0) :
    issueCommand 0x3#4 s = startSend (accept .send s) := by
  have hl : ¬ s.txLen = 0#16 := hl
  simp [issueCommand, h, hl]

theorem startSend_of_attempts {s : State} (h : s.maxAttempts ≠ 0) : startSend s = startAttempt (clearCounts s) := if_neg h

theorem startSend_of_no_attempts {s : State} (h : s.maxAttempts = 0) :
    startSend s = complete .exceeded .none (clearCounts s) :=
  if_pos h

/-- A command's CMD row and its WR CMD are one write. -/
theorem exec_command {s t : State} {op : BitVec 4} (h : s.inReset = false) (ht : issueCommand op s = t) (hi : BitVec 28) :
    exec (commandInstr hi op) s = .next (respond .done t) ∧ exec (.wrCmd (hi ++ op)) s = .next (respond .done t) := by
  rw [exec_commandInstr, exec_wrCmd_commandWord, hostWrite_of_not_inReset _ h, ht]
  exact ⟨rfl, rfl⟩

theorem ne_zero_of_one_le_toNat {w : Nat} {x : BitVec w} (h : 1 ≤ x.toNat) : x ≠ 0 := by
  rintro rfl
  exact absurd h (by simp)

theorem eq_zero_of_toNat {w : Nat} {x : BitVec w} (h : x.toNat = 0) : x = 0 := BitVec.eq_of_toNat_eq (by simpa using h)

/-! The statements. -/

/-- Settles O5: both are the write of the word's OP. -/
theorem cmdWriteRunsDecodedCommand : Obligations.CmdWriteRunsDecodedCommand := fun v s => (exec_decodeCommand v s).symm

/-- Settles O6: an admitted access is one of a word at a register. -/
theorem stepRunsAdmittedAccess : Obligations.StepRunsAdmittedAccess := by
  intro s a rest hagenda hoff hmod hwidth
  obtain ⟨r, ha⟩ := exists_eq_wordAccess hoff hmod hwidth
  rw [step_host hagenda, ha, hostTurn_wordAccess]
  refine ⟨accessInstr a.dir a.data r, decodeAccess_off _ _ _, ?_, rfl⟩
  cases a.dir
  · exact wellFormed_readInstr r
  · exact wellFormed_writeInstr a.data r

/-- Settles O7: the access is that of the register the instruction reads or writes, of CMD for a command. -/
theorem stepRunsPresentedInstruction : Obligations.StepRunsPresentedInstruction := by
  constructor
  · rintro i (hf | hf)
    · obtain ⟨r, rfl⟩ | ⟨v, r, rfl⟩ := eq_readInstr_or_writeInstr hf
      · exact ⟨_, accessOf_readInstr r⟩
      · exact ⟨_, accessOf_writeInstr v r⟩
    · obtain ⟨hi, op, rfl⟩ := eq_commandInstr hf
      exact ⟨_, accessOf_commandInstr hi op⟩
  · intro i a s rest ha hagenda
    rw [step_host hagenda]
    obtain hf | hf := format_of_accessOf ha
    · obtain ⟨r, rfl⟩ | ⟨v, r, rfl⟩ := eq_readInstr_or_writeInstr hf
      · cases ha.symm.trans (accessOf_readInstr r)
        exact hostTurn_wordAccess _ _ _ _
      · cases ha.symm.trans (accessOf_writeInstr v r)
        exact hostTurn_wordAccess _ _ _ _
    · obtain ⟨hi, op, rfl⟩ := eq_commandInstr hf
      cases ha.symm.trans (accessOf_commandInstr hi op)
      rw [hostTurn_wordAccess, ← decodeCommand_commandWord, exec_decodeCommand]
      rfl

/-- Settles O11: the second of the three cases of a host access, since BASE is a multiple of 64. -/
theorem misalignedAccessChangesNothing : Obligations.MisalignedAccessChangesNothing := by
  intro s base addr width dir v a rest hbase hle hlt hbad ha hagenda
  rw [accessAt, if_pos hle] at ha
  cases ha
  rw [step_host hagenda]
  obtain ⟨hout, -⟩ | ⟨-, h⟩ | ⟨⟨-, hmod, hwidth⟩, -⟩ := hostTurn_cases ⟨dir, addr - base, width, v⟩ (setAgenda rest s)
  · simp only [Config.windowSize] at hout
    omega
  · exact h
  · simp only at hmod hwidth
    omega

/-- Settles O12: below BASE there is no access, past the window the first of the three cases of one. -/
theorem accessOutsideWindowChangesNothing : Obligations.AccessOutsideWindowChangesNothing := by
  intro s base addr width dir v
  refine ⟨fun hlt => if_neg (Nat.not_le.mpr hlt), fun hle => ⟨_, if_pos (by omega), fun rest hagenda => ?_⟩⟩
  rw [step_host hagenda]
  have hout : Config.windowSize ≤ addr - base := by simp only [Config.windowSize]; omega
  exact if_pos hout

/-- Settles O13: RD ID is its constant in every state, the other two are reads of 0. -/
theorem readIdCmdAndReserved : Obligations.ReadIdCmdAndReserved := fun _ =>
  ⟨rfl, fun hrun => ⟨hostRead_of_not_inReset _ hrun, hostRead_of_not_inReset _ hrun⟩⟩

/-- Settles O20: what a read does, register by register. -/
theorem readsHaveNoSideEffect : Obligations.ReadsHaveNoSideEffect := exec_readInstr

/-- Settles O27: a read is as ever, a write leaves any TX_BUF. -/
theorem accessInResetKeepsRegisters : Obligations.AccessInResetKeepsRegisters := by
  intro s hreset
  refine ⟨fun r => ?_, fun r v => ?_⟩
  · obtain ⟨w, d, -, h⟩ := exec_readInstr r s
    exact ⟨w, d, h⟩
  · rw [exec_writeInstr]
    obtain ⟨-, h⟩ | ⟨hrun, -⟩ := hostWrite_cases (writeEffect v r) s
    · exact ⟨_, _, _, h⟩
    · exact absurd (hrun.symm.trans hreset) (by decide)

/-- Settles O30: the accepted command starts the receiver. -/
theorem recvAcceptedStartsReceiver : Obligations.RecvAcceptedStartsReceiver := by
  intro hi s hrun hidle
  obtain ⟨hrow, hwr⟩ := exec_command hrun (issueCommand_recv hidle) hi
  exact ⟨_, hrow, hwr, rfl⟩

/-- Settles O31: the accepted command starts the encoder, at the frame's first byte. -/
theorem xmitAcceptedStartsEncoder : Obligations.XmitAcceptedStartsEncoder := by
  intro hi s hrun hidle hlen
  obtain ⟨hrow, hwr⟩ := exec_command hrun (issueCommand_xmit hidle (ne_zero_of_one_le_toNat hlen)) hi
  exact ⟨_, hrow, hwr, rfl, rfl, rfl⟩

/-- Settles O32: the accepted command starts an attempt, or none where none is allowed. -/
theorem sendAcceptedStartsAttempt : Obligations.SendAcceptedStartsAttempt := by
  intro hi s hrun hidle hlen
  obtain ⟨hrow, hwr⟩ := exec_command hrun (issueCommand_send hidle (ne_zero_of_one_le_toNat hlen)) hi
  refine ⟨_, hrow, hwr, fun hmax => ?_, fun hmax => ?_⟩
  · rw [startSend_of_attempts (s := accept .send s) (ne_zero_of_one_le_toNat hmax)]
    rfl
  · rw [startSend_of_no_attempts (s := accept .send s) (eq_zero_of_toNat hmax)]
    rfl

/-- Settles O33: BUSY refuses all three commands, TX_LEN = 0 the two that transmit. -/
theorem commandsRefusedWhenBusyOrEmpty : Obligations.CommandsRefusedWhenBusyOrEmpty := by
  intro hi s hrun
  refine ⟨fun hbusy i hmem => ?_, fun hlen i hmem => ?_⟩
  · simp only [List.mem_cons, List.not_mem_nil, or_false] at hmem
    obtain rfl | rfl | rfl := hmem
    all_goals exact hostWrite_refused hrun (issueCommand_of_busy (by decide) hbusy)
  · simp only [List.mem_cons, List.not_mem_nil, or_false] at hmem
    obtain rfl | rfl := hmem
    all_goals exact hostWrite_refused hrun (issueCommand_of_empty (by decide) (eq_zero_of_toNat hlen))

/-- Settles O55: the writes that change more than the answer, DONE, CMD_ERR or RX_INDEX are refused while an operation runs. -/
theorem hostCannotDisturbOperation : Obligations.HostCannotDisturbOperation := by
  intro s t a rest hagenda hbusy hrun hstep
  rw [step_host hagenda] at hstep
  obtain ⟨x, -, h⟩ | ⟨r, v, w, d, -, h⟩ | ⟨r, v, -, h⟩ := hostTurn_eq a (setAgenda rest s)
  · cases h.symm.trans hstep; rfl
  · cases h.symm.trans hstep; rfl
  · rw [hostWrite_of_not_inReset (s := setAgenda rest s) _ hrun] at h
    cases h.symm.trans hstep
    have refusal : ∀ f, unlessBusy f (setAgenda rest s) = refuseWrite (setAgenda rest s) := fun f =>
      if_pos hbusy
    cases r with
    | cmd =>
      by_cases hop : v.extractLsb' 0 4 = 0x0#4
      · simp only [writeEffect, hop, issueCommand_nop]; rfl
      · simp only [writeEffect, issueCommand_of_busy (s := setAgenda rest s) hop hbusy]; rfl
    | config | txLen | txIndex | txData => simp only [writeEffect, refusal]; rfl
    | _ => rfl

end Sys2Proof.Claims
end

section
/-! PROOFS of the family 'other', the turns (20_memory.md section 5, 70_reset_and_hazards.md section 1): the frame turn runs the
frame its queue begins with, a turn that finds no handshake passes, and reset is asserted and released. -/

open Sys2Proof.Machine

namespace Sys2Proof.Claims

/-! The frame RXSRC's queue begins with (log entry 14). -/

theorem events_append (as bs : List Byte) : events (as ++ bs) = events as ++ events bs := List.map_append

theorem length_events (bs : List Byte) : (events bs).length = bs.length := List.length_map _

theorem leadingBytes_events_append (bs : List Byte) (q : List RxEvent) :
    leadingBytes (events bs ++ q) = bs ++ leadingBytes q := by
  induction bs with
  | nil => rfl
  | cons b bs ih => exact congrArg (b :: ·) ih

theorem exists_eq_events_leadingBytes (q : List RxEvent) : ∃ q', q = events (leadingBytes q) ++ q' := by
  induction q with
  | nil => exact ⟨[], rfl⟩
  | cons e q ih =>
    cases e with
    | byte b => exact ih.imp fun _ h => congrArg (.byte b :: ·) h
    | eos | rxErr => exact ⟨_, rfl⟩

theorem rxFrameTurn_of_frame {s : State} {ident : Byte} {payload : List Byte} {q : List RxEvent}
    (hp : payload.length ≤ maxPayload) (hq : s.rxQ = events (frameBytes ident payload) ++ q) :
    rxFrameTurn s = takeBytes (frameBytes ident payload) (setRxQ q s) := by
  have hdrop : s.rxQ.drop ((leadingBytes s.rxQ).length - (leadingBytes q).length) = q := by
    rw [hq, leadingBytes_events_append, List.length_append, Nat.add_sub_cancel, ← length_events, List.drop_left]
  have hdecode : decode .wire (leadingBytes s.rxQ) = .ok (.frame ident payload, leadingBytes q) := by
    rw [hq, leadingBytes_events_append]
    exact decodeWire_frameBytes hp _
  simp only [rxFrameTurn, hdecode, hdrop]
  rfl

/-- The frame turn offers a whole frame or, where the queue begins with none, one event. -/
theorem rxFrameTurn_cases (s : State) :
    (∃ ident payload q, s.rxQ = events (frameBytes ident payload) ++ q ∧
      rxFrameTurn s = takeBytes (frameBytes ident payload) (setRxQ q s)) ∨
    rxFrameTurn s = rxTurn s := by
  cases hd : decode .wire (leadingBytes s.rxQ) with
  | error e => exact .inr (by simp only [rxFrameTurn, hd])
  | ok x =>
    obtain ⟨i, tail⟩ := x
    obtain ⟨ident, payload, rfl, hp, hbytes⟩ := decodeWire_eq_ok hd
    obtain ⟨q, hq⟩ := exists_eq_events_leadingBytes s.rxQ
    rw [hbytes, events_append, List.append_assoc] at hq
    exact .inl ⟨ident, payload, _, hq, rxFrameTurn_of_frame hp hq⟩

/-! Turns with no handshake (20_memory.md R80, 41_encoder.md R171; log entry 12). -/

theorem takesRx_eq_false {s : State} (h : s.rxReady = false ∨ s.inReset = true) : s.takesRx = false := by
  rcases h with h | h
  · rw [State.takesRx, ← State.rxReady, h, Bool.false_and]
  · rw [State.takesRx, h, Bool.not_true, Bool.and_false]

theorem takesRx_eq_true {s : State} (h : s.rxst ≠ .idle) (hrun : s.inReset = false) : s.takesRx = true := by
  rw [State.takesRx, decide_eq_true h, hrun, Bool.not_false, Bool.and_true]

theorem not_inReset_of_takesRx {s : State} (h : s.takesRx = true) : s.rxst ≠ .idle ∧ s.inReset = false := by
  simpa [State.takesRx] using h

/-- Bytes that are not taken stay first in the queue (20_memory.md R80). -/
theorem takeBytes_of_not_takesRx {s : State} (h : s.takesRx = false) (bs : List Byte) :
    takeBytes bs s = .next (setRxQ (events bs ++ s.rxQ) s) := by
  cases bs with
  | nil => rfl
  | cons b bs => rw [takeBytes, h]; rfl

theorem rxTurn_of_not_takesRx {s : State} (h : s.takesRx = false) : rxTurn s = .next s := by
  rw [rxTurn, h]
  rfl

theorem rxTurn_of_empty {s : State} (h : s.rxQ = []) : rxTurn s = .next s := by
  rw [rxTurn, h]
  exact ite_self _

theorem rxTurn_of_takesRx {s : State} {e : RxEvent} {q : List RxEvent} (h : s.takesRx = true) (hq : s.rxQ = e :: q) :
    rxTurn s = takeEvent e (setRxQ q s) := by
  rw [rxTurn, h, hq]
  rfl

theorem rxFrameTurn_of_not_takesRx {s : State} (h : s.takesRx = false) : rxFrameTurn s = .next s := by
  obtain ⟨ident, payload, q, hq, hturn⟩ | hturn := rxFrameTurn_cases s
  · rw [hturn, takeBytes_of_not_takesRx (s := setRxQ q s) h, setRxQ_rxQ, ← hq]
    rfl
  · rw [hturn, rxTurn_of_not_takesRx h]

theorem rxFrameTurn_of_empty {s : State} (h : s.rxQ = []) : rxFrameTurn s = .next s := by
  obtain ⟨ident, payload, q, hq, -⟩ | hturn := rxFrameTurn_cases s
  · cases h.symm.trans hq
  · rw [hturn, rxTurn_of_empty h]

theorem txTurn_of_not_offersTx {s : State} (h : s.txValid = false ∨ s.inReset = true) (ans : TxAnswer) :
    txTurn ans s = .next s := by
  have hoff : s.offersTx = false := by
    rcases h with h | h
    · rw [State.offersTx, ← State.txValid, h, Bool.false_and]
    · rw [State.offersTx, h, Bool.not_true, Bool.and_false]
  rw [txTurn, hoff]
  rfl

/-! The statements. -/

/-- Settles O8: the queue's leading bytes decode to the frame, and the rest of the queue stays. -/
theorem stepRunsOfferedFrame : Obligations.StepRunsOfferedFrame := by
  intro s ident payload q rest hp hagenda hq
  rw [step_of_agenda hagenda]
  exact rxFrameTurn_of_frame (s := setAgenda rest s) hp hq

/-- Settles O36: the receiver takes none of the bytes. -/
theorem frameWaitsWhileNotReady : Obligations.FrameWaitsWhileNotReady := fun _ ident payload hready =>
  takeBytes_of_not_takesRx (takesRx_eq_false (.inl hready)) (frameBytes ident payload)

/-- Settles O58: each of the turns passes where its handshake is not possible. -/
theorem turnWithoutHandshakeChangesNothing : Obligations.TurnWithoutHandshakeChangesNothing := by
  refine ⟨fun s hnil => ?_, fun s turn rest hagenda => ⟨fun hturn hno => ?_, fun ans hturn hno => ?_⟩⟩
  · obtain ⟨-, hstep⟩ | ⟨_, _, hcons, -⟩ := step_cases s
    · exact hstep
    · cases hnil.symm.trans hcons
  · rw [step_of_agenda hagenda]
    have hno : (setAgenda rest s).takesRx = false ∨ (setAgenda rest s).rxQ = [] := by
      rw [← or_assoc] at hno
      exact hno.imp_left (takesRx_eq_false (s := setAgenda rest s))
    obtain rfl | rfl := hturn
    · exact hno.elim rxTurn_of_not_takesRx rxTurn_of_empty
    · exact hno.elim rxFrameTurn_of_not_takesRx rxFrameTurn_of_empty
  · rw [step_of_agenda hagenda, hturn]
    exact txTurn_of_not_offersTx (s := setAgenda rest s) hno ans

/-- Settles O56: the reset step is written out field by field. -/
theorem resetRestoresRegisters : Obligations.ResetRestoresRegisters := by
  intro s rest hagenda
  refine ⟨resetStep (setAgenda rest s), step_of_agenda hagenda, ?_⟩
  refine ⟨rfl, rfl, rfl, rfl, rfl, rfl, rfl, rfl, rfl, rfl, rfl, rfl, rfl, rfl, rfl, rfl, rfl, rfl, rfl, rfl, rfl, rfl,
    fun j => txByte_congr rfl rfl j, fun j => rxByte_congr rfl j, rfl, rfl, rfl, rfl, rfl, rfl, rfl, rfl⟩

/-- Settles O59: the release changes the level alone, and the reset before it has put the block at rest. -/
theorem releasingResetLeavesBlockIdle : Obligations.ReleasingResetLeavesBlockIdle := by
  refine ⟨fun s rest hagenda => step_of_agenda hagenda, fun s rest hagenda => ?_⟩
  have hassert : step s = .next (resetStep (setAgenda (.releaseReset :: rest) s)) := step_of_agenda hagenda
  refine ⟨releaseReset (setAgenda rest (resetStep (setAgenda (.releaseReset :: rest) s))), ?_,
    rfl, rfl, rfl, rfl, rfl, rfl, rfl⟩
  simp only [runSteps, hassert]
  rfl

end Sys2Proof.Claims
end

section
/-! PROOFS of the family 'other', the invariant (10_state.md section 4): every step from a state that satisfies it answers a
next state that does. The operations that end one phase and begin the next pass through states that are in no phase, so what
they need is said by two weaker predicates: `RestInv`, what holds between any two phases, and `BusyInv`, what holds besides
while an operation runs. Each phase is entered with `Inv` from these, and left with them from `Inv`. -/

open Sys2Proof.Machine

namespace Sys2Proof.Machine

/-- What holds between any two phases, outside reset. -/
structure State.RestInv (s : State) : Prop where
  running : s.inReset = false
  lcause_send : s.lcause ≠ .none → s.op = .send ∧ s.lcause.isAttemptCause = true
  lcause_attempts : s.lcause ≠ .none → 1 ≤ s.attempts.toNat
  rx_pos : s.rxPos.toNat ≤ s.rxLen.toNat + 3
  tx_pos : s.txPos.toNat ≤ 65542
  irr_count : s.irrCount.toNat ≤ 256
  buffers : s.BufferInv

/-- What holds besides between two phases of a running operation. -/
structure State.BusyInv (s : State) : Prop extends s.RestInv where
  busy : s.busy = true
  not_done : s.done = false
  no_result : s.result = .none
  no_cause : s.cause = .none
  busy_len : s.op ≠ .recv → 1 ≤ s.txLen.toNat

/-- What holds besides of the attempts of a running SEND (43_sequencer.md R232, R238). -/
structure State.AttemptInv (s : State) : Prop where
  attempts : s.op = .send → 1 ≤ s.attempts.toNat ∧ s.attempts.toNat ≤ s.maxAttempts.toNat
  irr_count : s.op = .send → s.irrCount.toNat ≤ s.irrBound.toNat
  retry : s.lcause ≠ .none → 2 ≤ s.attempts.toNat

end Sys2Proof.Machine

namespace Sys2Proof.Claims

/-! The invariant leaves a phase in these. -/

theorem restInv_of_inv {s : State} (h : s.Inv) (hrun : s.inReset = false) : s.RestInv where
  running := hrun
  lcause_send := h.control.lcause_send
  lcause_attempts := h.counters.lcause_attempts
  rx_pos := h.counters.rx_pos
  tx_pos := h.counters.tx_pos
  irr_count := h.counters.irr_count
  buffers := h.buffers

theorem busyInv_of_inv {s : State} (h : s.Inv) (hrun : s.inReset = false) (hbusy : s.busy = true) : s.BusyInv where
  toRestInv := restInv_of_inv h hrun
  busy := hbusy
  not_done := h.control.busy_not_done hbusy
  no_result := (h.control.busy_no_result hbusy).1
  no_cause := (h.control.busy_no_result hbusy).2
  busy_len := h.control.busy_len hbusy

theorem attemptInv_of_inv {s : State} (h : s.Inv) (hbusy : s.busy = true) : s.AttemptInv where
  attempts := fun hop => ⟨(h.counters.send_attempts hbusy hop).1, (h.counters.send_attempts hbusy hop).2.1⟩
  irr_count := fun hop => (h.counters.send_attempts hbusy hop).2.2
  retry := h.counters.lcause_retry hbusy

theorem busy_of_receiving {s : State} (h : s.Inv) (hrx : s.rxst ≠ .idle) : s.busy = true :=
  h.control.busy_iff.mpr (by rw [h.control.receiver_iff.mp hrx]; decide)

theorem busy_of_transmitting {s : State} (h : s.Inv) (htx : s.sqst = .xmit) : s.busy = true :=
  h.control.busy_iff.mpr (by rw [htx]; decide)

theorem rxst_idle_of_sqst {s : State} (h : s.Inv) (hsq : s.sqst ≠ .recv) : s.rxst = .idle :=
  Decidable.not_not.mp fun hrx => hsq (h.control.receiver_iff.mp hrx)

theorem sqst_idle_of_not_busy {s : State} (h : s.Inv) (hbusy : s.busy = false) : s.sqst = .idle :=
  Decidable.not_not.mp fun hsq => absurd ((h.control.busy_iff.mpr hsq).symm.trans hbusy) (by decide)

/-! The running checksums depend on the buffers alone. -/

theorem rxXorTo_of_rxBuf {s t : State} (h : t.rxBuf = s.rxBuf) (n : Nat) : t.rxXorTo n = s.rxXorTo n :=
  rxXorTo_congr fun i _ => rxByte_congr h i

theorem txXorTo_of_txBuf {s t : State} (h : t.txBuf = s.txBuf) (he : t.txEpoch = s.txEpoch) (n : Nat) :
    t.txXorTo n = s.txXorTo n :=
  txXorTo_congr fun i _ => txByte_congr h he i

/-! Updates of the fields the invariant says nothing of. -/

/-- The records of the ports may change, in reset too. -/
theorem inv_ports {s : State} (h : s.Inv) (d : Nat) (r : Response) (a : List Turn) (q : List RxEvent) (b : List Byte) :
    State.Inv { s with draws := d, resp := r, agenda := a, rxQ := q, sent := b } where
  control :=
    { h.control with
      reset_values := fun hreset =>
        congrArg (fun u : State => { u with draws := d, resp := r, agenda := a, rxQ := q, sent := b })
          (h.control.reset_values hreset) }
  counters := { h.counters with }
  checksums :=
    { rx_xor := fun hb => (h.checksums.rx_xor hb).trans (rxXorTo_of_rxBuf (by rfl) _)
      tx_xor := fun hx => (h.checksums.tx_xor hx).trans (txXorTo_of_txBuf (by rfl) (by rfl) _) }
  buffers := { h.buffers with }

/-- Outside reset CMD_ERR, IE and the two indices may change, and DONE may be cleared. -/
theorem inv_flags {s : State} (h : s.Inv) (hrun : s.inReset = false) {d : Bool} (hd : d = true → s.done = true) (e i : Bool)
    (x : BitVec 16) (y : BitVec 17) :
    State.Inv { s with done := d, cmdErr := e, ie := i, txIndex := x, rxIndex := y } where
  control :=
    { h.control with
      busy_not_done := fun hb => Bool.eq_false_iff.mpr fun hdone =>
        absurd ((hd hdone).symm.trans (h.control.busy_not_done hb)) (by decide)
      done_result := fun hdone => h.control.done_result (hd hdone)
      reset_values := fun hreset => absurd (hreset.symm.trans hrun) (by decide) }
  counters := { h.counters with }
  checksums :=
    { rx_xor := fun hb => (h.checksums.rx_xor hb).trans (rxXorTo_of_rxBuf (by rfl) _)
      tx_xor := fun hx => (h.checksums.tx_xor hx).trans (txXorTo_of_txBuf (by rfl) (by rfl) _) }
  buffers := { h.buffers with }

theorem inv_setAgenda {s : State} (h : s.Inv) (rest : List Turn) : (setAgenda rest s).Inv :=
  inv_ports h s.draws s.resp rest s.rxQ s.sent

theorem inv_setRxQ {s : State} (h : s.Inv) (q : List RxEvent) : (setRxQ q s).Inv :=
  inv_ports h s.draws s.resp s.agenda q s.sent

theorem inv_respond {s : State} (h : s.Inv) (r : Response) : (respond r s).Inv :=
  inv_ports h s.draws r s.agenda s.rxQ s.sent

theorem inv_refuseWrite {s : State} (h : s.Inv) (hrun : s.inReset = false) : (refuseWrite s).Inv :=
  inv_flags h hrun (d := s.done) id true s.ie s.txIndex s.rxIndex

/-! Entering a phase, and ending the operation. -/

/-- CAUSE is recorded with EXCEEDED alone (60_exceptions.md R277). -/
theorem exceeded_of_canEndWith {o : Op} {r c : Code} (h : o.canEndWith r c = true) (hc : c ≠ .none) : r = .exceeded := by
  cases r with
  | exceeded => rfl
  | _ => cases o <;> simp [Op.canEndWith, hc] at h

theorem canEndWith_exceeded {c : Code} (h : c.isAttemptCause = true) : Op.canEndWith .send .exceeded c = true := by
  rw [Op.canEndWith, h, Bool.or_true]

theorem inv_complete {r c : Code} {s : State} (h : s.RestInv) (hend : s.op.canEndWith r c = true)
    (hcause : c ≠ .none → c = s.lcause) (hexceeded : r = .exceeded → c = .none → s.attempts = 0) : (complete r c s).Inv where
  control :=
    { busy_iff := ⟨(nomatch ·), fun hsq => absurd rfl hsq⟩
      receiver_iff := ⟨fun hrx => absurd rfl hrx, (nomatch ·)⟩
      busy_no_result := (nomatch ·)
      busy_not_done := (nomatch ·)
      busy_op := (nomatch ·)
      xmit_op := (nomatch ·)
      recv_op := (nomatch ·)
      busy_len := (nomatch ·)
      done_result := fun _ => hend
      result_legal := fun _ => hend
      cause_legal := exceeded_of_canEndWith hend
      cause_lcause := hcause
      lcause_send := h.lcause_send
      reset_values := fun hreset => absurd (hreset.symm.trans h.running) (by decide) }
  counters :=
    { rx_pos := h.rx_pos
      rx_pos_body := (nomatch ·)
      rx_pos_header := fun hrx => absurd rfl hrx
      tx_pos := h.tx_pos
      tx_pos_xmit := (nomatch ·)
      irr_count := h.irr_count
      send_attempts := (nomatch ·)
      lcause_attempts := h.lcause_attempts
      lcause_retry := (nomatch ·)
      exceeded_unsent := hexceeded }
  checksums := { rx_xor := (nomatch ·), tx_xor := (nomatch ·) }
  buffers := { h.buffers with }

/-- A running operation records no result, so what the invariant says of results is empty. -/
theorem controlInv_of_busyInv {s : State} (h : s.BusyInv) (hsq : s.sqst ≠ .idle) (hrx : s.rxst ≠ .idle ↔ s.sqst = .recv)
    (hxmit : s.sqst = .xmit → s.op = .xmit ∨ s.op = .send) (hrecv : s.sqst = .recv → s.op = .recv ∨ s.op = .send) :
    s.ControlInv where
  busy_iff := ⟨fun _ => hsq, fun _ => h.busy⟩
  receiver_iff := hrx
  busy_no_result := fun _ => ⟨h.no_result, h.no_cause⟩
  busy_not_done := fun _ => h.not_done
  busy_op := fun _ hnop => by
    cases hs : s.sqst with
    | idle => exact hsq hs
    | xmit => rcases hxmit hs with h | h <;> cases h.symm.trans hnop
    | recv => rcases hrecv hs with h | h <;> cases h.symm.trans hnop
  xmit_op := hxmit
  recv_op := hrecv
  busy_len := fun _ => h.busy_len
  done_result := fun hd => absurd (hd.symm.trans h.not_done) (by decide)
  result_legal := fun hr => absurd h.no_result hr
  cause_legal := fun hc => absurd h.no_cause hc
  cause_lcause := fun hc => absurd h.no_cause hc
  lcause_send := h.lcause_send
  reset_values := fun hreset => absurd (hreset.symm.trans h.running) (by decide)

theorem counterInv_of_busyInv {s : State} (h : s.BusyInv) (ha : s.AttemptInv)
    (hbody : s.rxst = .body → s.rxPos.toNat < s.rxLen.toNat + 3) (hheader : s.rxst ≠ .idle → s.rxst ≠ .body → s.rxPos = 0)
    (hxmit : s.sqst = .xmit → s.txPos.toNat ≤ s.txLen.toNat + 6) : s.CounterInv where
  rx_pos := h.rx_pos
  rx_pos_body := hbody
  rx_pos_header := hheader
  tx_pos := h.tx_pos
  tx_pos_xmit := hxmit
  irr_count := h.irr_count
  send_attempts := fun _ hop => ⟨(ha.attempts hop).1, (ha.attempts hop).2, ha.irr_count hop⟩
  lcause_attempts := h.lcause_attempts
  lcause_retry := fun _ => ha.retry
  exceeded_unsent := fun hr => absurd (h.no_result.symm.trans hr) (by decide)

theorem inv_startTransmit {s : State} (h : s.BusyInv) (ha : s.AttemptInv) (hop : s.op = .xmit ∨ s.op = .send)
    (hrx : s.rxst = .idle) : (startTransmit s).Inv := by
  have hbusy : (startTransmit s).BusyInv := { h with tx_pos := Nat.zero_le _, buffers := { h.buffers with } }
  refine ⟨controlInv_of_busyInv hbusy (nomatch ·) ⟨fun hne => absurd hrx hne, (nomatch ·)⟩ (fun _ => hop) (nomatch ·),
    counterInv_of_busyInv hbusy { ha with } ?_ (fun hne => absurd hrx hne) (fun _ => Nat.zero_le _), ?_, { h.buffers with }⟩
  · exact fun hb => absurd (hrx.symm.trans hb) (by decide)
  · refine ⟨fun hb => absurd (hrx.symm.trans hb) (by decide), fun _ => ?_⟩
    have hmin : min ((startTransmit s).txPos.toNat - 4) (startTransmit s).txLen.toNat = 0 := Nat.zero_min _
    rw [hmin]
    rfl

theorem inv_startReceive {s : State} (h : s.BusyInv) (ha : s.AttemptInv) (hop : s.op = .recv ∨ s.op = .send) :
    (startReceive s).Inv := by
  have hbusy : (startReceive s).BusyInv := { h with rx_pos := Nat.zero_le _, buffers := { h.buffers with } }
  exact ⟨controlInv_of_busyInv hbusy (nomatch ·) ⟨fun _ => rfl, fun _ => (nomatch ·)⟩ (nomatch ·) (fun _ => hop),
    counterInv_of_busyInv hbusy { ha with } (nomatch ·) (fun _ _ => rfl) (nomatch ·), ⟨(nomatch ·), (nomatch ·)⟩,
    { h.buffers with }⟩

/-- The next attempt starts within MAX_ATTEMPTS (43_sequencer.md R232). -/
theorem inv_startAttempt {s : State} (h : s.BusyInv) (hop : s.op = .send) (hlt : s.attempts < s.maxAttempts)
    (hrx : s.rxst = .idle) : (startAttempt s).Inv := by
  have hsucc : (s.attempts + 1).toNat = s.attempts.toNat + 1 := by bv_omega
  have hle : s.attempts.toNat + 1 ≤ s.maxAttempts.toNat := hlt
  refine inv_startTransmit (s := { s with attempts := s.attempts + 1, irrCount := 0 }) ?_ ?_ (.inr hop) hrx
  · exact
      { h with
        lcause_attempts := fun _ => by simp only [hsucc]; omega
        irr_count := Nat.zero_le _
        buffers := { h.buffers with } }
  · exact
      { attempts := fun _ => by simp only [hsucc]; omega
        irr_count := fun _ => Nat.zero_le _
        retry := fun hl => by have := h.lcause_attempts hl; simp only [hsucc]; omega }

/-! A failed attempt, an irrelevant frame and a classified one (43_sequencer.md R237 to R241). -/

theorem busyInv_recordCause {c : Code} {s : State} (h : s.BusyInv) (hop : s.op = .send) (ha : 1 ≤ s.attempts.toNat)
    (hc : c.isAttemptCause = true) : (recordCause c s).BusyInv :=
  { h with
    lcause_send := fun _ => ⟨hop, hc⟩
    lcause_attempts := fun _ => ha
    buffers := { h.buffers with } }

theorem inv_attemptFailed {c : Code} {s : State} (h : s.BusyInv) (hop : s.op = .send) (ha : 1 ≤ s.attempts.toNat)
    (hc : c.isAttemptCause = true) (hrx : s.rxst = .idle) : (attemptFailed c s).Inv := by
  have hrec := busyInv_recordCause h hop ha hc
  obtain ⟨hlt, heq⟩ | ⟨-, heq⟩ := attemptFailed_cases c s
  · rw [heq]
    exact inv_startAttempt hrec hop hlt hrx
  · rw [heq]
    refine inv_complete hrec.toRestInv ?_ (fun _ => rfl) ?_
    · rw [recordCause_op, hop]
      exact canEndWith_exceeded hc
    · rintro - rfl
      cases hc

theorem inv_irrelevant {s : State} (h : s.BusyInv) (ha : s.AttemptInv) (hop : s.op = .send) (hrx : s.rxst = .idle) :
    (irrelevant s).Inv := by
  have hirr := ha.irr_count hop
  have hbound : s.irrBound.toNat < 256 := s.irrBound.isLt
  have hsucc : (s.irrCount + 1).toNat = s.irrCount.toNat + 1 := by bv_omega
  have hcount : (countIrrelevant s).BusyInv :=
    { h with irr_count := by simp only [countIrrelevant_irrCount, hsucc]; omega, buffers := { h.buffers with } }
  obtain ⟨-, heq⟩ | ⟨hle, heq⟩ := irrelevant_cases s
  · rw [heq]
    exact inv_attemptFailed hcount hop (ha.attempts hop).1 rfl hrx
  · rw [heq]
    exact inv_startReceive hcount { ha with irr_count := fun _ => Nat.not_lt.mp hle } (.inr hop)

theorem inv_classifyAs {s : State} (i : Byte) (h : s.BusyInv) (ha : s.AttemptInv) (hop : s.op = .send)
    (hrx : s.rxst = .idle) : (classifyAs i s).Inv := by
  obtain ⟨-, heq⟩ | ⟨-, heq⟩ | ⟨-, heq⟩ := classifyAs_cases i s
  · rw [heq]
    exact inv_complete h.toRestInv (by rw [hop]; rfl) (fun hc => absurd rfl hc) (nomatch ·)
  · rw [heq]
    exact inv_attemptFailed h hop (ha.attempts hop).1 rfl hrx
  · rw [heq]
    exact inv_irrelevant h ha hop hrx

/-! The ends of a reception and of a transmission. -/

/-- What a reception can end with (42_decoder.md R203). -/
def isReceiveEnd : Code → Bool
  | .ok | .endMarker | .checksum | .zeroLen | .eos | .rxErr => true
  | .none | .txErr | .nack | .irrelevant | .exceeded => false

theorem isReceiveEnd_verdict (s : State) : isReceiveEnd s.verdict = true := by
  rcases verdict_cases s with h | h | h | h <;> rw [h] <;> rfl

theorem canEndWith_recv {r : Code} (h : isReceiveEnd r = true) : Op.canEndWith .recv r .none = true := by
  cases r with
  | ok | endMarker | checksum | zeroLen | eos | rxErr => rfl
  | none | txErr | nack | irrelevant | exceeded => cases h

theorem isAttemptCause_of_isReceiveEnd {r : Code} (h : isReceiveEnd r = true) (hok : r ≠ .ok) : r.isAttemptCause = true := by
  cases r with
  | ok => exact absurd rfl hok
  | endMarker | checksum | zeroLen | eos | rxErr => rfl
  | none | txErr | nack | irrelevant | exceeded => cases h

theorem inv_endReceive {r : Code} {s : State} (h : s.BusyInv) (ha : s.AttemptInv) (hop : s.op = .recv ∨ s.op = .send)
    (hr : isReceiveEnd r = true) : (endReceive r s).Inv := by
  have hstop : (stopPorts s).BusyInv := { h with buffers := { h.buffers with } }
  obtain ⟨hrecv, heq⟩ | ⟨⟨hsend, -⟩, heq⟩ | ⟨⟨hsend, hok⟩, heq⟩ | ⟨hother, -⟩ := endReceive_cases r s
  · rw [heq]
    refine inv_complete hstop.toRestInv ?_ (fun hc => absurd rfl hc) fun he => ?_
    · rw [stopPorts_op, hrecv]
      exact canEndWith_recv hr
    · rw [he] at hr
      cases hr
  · rw [heq]
    exact inv_classifyAs _ hstop { ha with } hsend rfl
  · rw [heq]
    exact inv_attemptFailed hstop hsend (ha.attempts hsend).1 (isAttemptCause_of_isReceiveEnd hr hok) rfl
  · rcases hop with hop | hop <;> rcases hother with hother | hother <;> cases hop.symm.trans hother

theorem inv_endTransmit {r : Code} {s : State} (h : s.BusyInv) (ha : s.AttemptInv) (hop : s.op = .xmit ∨ s.op = .send)
    (hr : r = .ok ∨ r = .txErr) : (endTransmit r s).Inv := by
  have hstop : (stopEncoder s).BusyInv := { h with buffers := { h.buffers with } }
  obtain ⟨hxmit, heq⟩ | ⟨⟨hsend, -⟩, heq⟩ | ⟨⟨hsend, -⟩, heq⟩ | ⟨hother, -⟩ := endTransmit_cases r s
  · rw [heq]
    refine inv_complete hstop.toRestInv ?_ (fun hc => absurd rfl hc) fun he => ?_
    · rw [stopEncoder_op, hxmit]
      rcases hr with rfl | rfl <;> rfl
    · rcases hr with rfl | rfl <;> cases he
  · rw [heq]
    refine inv_complete hstop.toRestInv ?_ (fun hc => absurd rfl hc) (nomatch ·)
    rw [stopEncoder_op, hsend]
    rfl
  · rw [heq]
    exact inv_startReceive hstop { ha with } (.inr hsend)
  · rcases hop with hop | hop <;> rcases hother with hother | hother <;> cases hop.symm.trans hother

/-! The receiver. -/

/-- A running receiver is that of a RECV or a SEND. -/
theorem inv_endReceive_of_inv {r : Code} {s : State} (h : s.Inv) (hrun : s.inReset = false) (hrx : s.rxst ≠ .idle)
    (hr : isReceiveEnd r = true) : (endReceive r s).Inv :=
  have hbusy := busy_of_receiving h hrx
  inv_endReceive (busyInv_of_inv h hrun hbusy) (attemptInv_of_inv h hbusy)
    (h.control.recv_op (h.control.receiver_iff.mp hrx)) hr

/-- The header is read at RX_POS 0, whatever RX_LEN becomes (42_decoder.md R192 to R195). -/
theorem inv_header {s : State} (h : s.Inv) (hrun : s.inReset = false) (hrx : s.rxst ≠ .idle) (hbody : s.rxst ≠ .body)
    {x : RxSt} (hx : x ≠ .idle) (hxb : x ≠ .body) (l : BitVec 16) : State.Inv { s with rxLen := l, rxst := x } where
  control :=
    { h.control with
      receiver_iff := ⟨fun _ => h.control.receiver_iff.mp hrx, fun _ => hx⟩
      reset_values := fun hreset => absurd (hreset.symm.trans hrun) (by decide) }
  counters :=
    { h.counters with
      rx_pos := by simp [h.counters.rx_pos_header hrx hbody]
      rx_pos_body := fun hb => absurd hb hxb
      rx_pos_header := fun _ _ => h.counters.rx_pos_header hrx hbody }
  checksums :=
    { rx_xor := fun hb => absurd hb hxb
      tx_xor := fun hx => (h.checksums.tx_xor hx).trans (txXorTo_of_txBuf (by rfl) (by rfl) _) }
  buffers := { h.buffers with }

theorem inv_takeLengthLow {s : State} (h : s.Inv) (hrun : s.inReset = false) (hrx : s.rxst ≠ .idle) (b : Byte) :
    (takeLengthLow b s).Inv where
  control :=
    { h.control with
      receiver_iff := ⟨fun _ => h.control.receiver_iff.mp hrx, fun _ => (nomatch ·)⟩
      reset_values := fun hreset => absurd (hreset.symm.trans hrun) (by decide) }
  counters :=
    { h.counters with
      rx_pos := Nat.zero_le _
      rx_pos_body := fun _ => Nat.succ_pos _
      rx_pos_header := fun _ hb => absurd rfl hb }
  checksums :=
    { rx_xor := fun _ => by
        have hmin : min (takeLengthLow b s).rxPos.toNat (takeLengthLow b s).rxLen.toNat = 0 := Nat.zero_min _
        rw [hmin]
        rfl
      tx_xor := fun hx => (h.checksums.tx_xor hx).trans (txXorTo_of_txBuf (by rfl) (by rfl) _) }
  buffers := { h.buffers with }

/-- RX_POS does not wrap within RX_BUF. -/
theorem toNat_rxPos_succ {s : State} (h : s.rxPos.toNat < Config.rxBufSize) : (s.rxPos + 1).toNat = s.rxPos.toNat + 1 := by
  simp only [Config.rxBufSize] at h
  rw [BitVec.toNat_add_of_lt (by simp; omega)]
  rfl

theorem rxByte_storeBodyByte (b : Byte) (s : State) (i : Nat) :
    (storeBodyByte b s).rxByte i = if i = s.rxPos.toNat then b else s.rxByte i :=
  rxByte_of_write rfl i

/-- A stored byte leaves the sum of the bytes below it. -/
theorem rxXorTo_storeBodyByte_of_le (b : Byte) {s : State} {n : Nat} (h : n ≤ s.rxPos.toNat) :
    (storeBodyByte b s).rxXorTo n = s.rxXorTo n :=
  rxXorTo_congr fun i hi => by rw [rxByte_storeBodyByte, if_neg (by omega)]

/-- The running checksum stays that of the bytes stored so far (42_decoder.md R197). -/
theorem rxXor_storeBodyByte {b : Byte} {s : State} (hpos : s.rxPos.toNat < Config.rxBufSize)
    (h : s.rxXor = s.rxXorTo (min s.rxPos.toNat s.rxLen.toNat)) :
    (storeBodyByte b s).rxXor =
      (storeBodyByte b s).rxXorTo (min (storeBodyByte b s).rxPos.toNat (storeBodyByte b s).rxLen.toNat) := by
  simp only [storeBodyByte_rxXor, storeBodyByte_rxPos, storeBodyByte_rxLen, toNat_rxPos_succ hpos]
  by_cases hlt : s.rxPos.toNat < s.rxLen.toNat
  · rw [Nat.min_eq_left (Nat.le_of_lt hlt)] at h
    rw [if_pos hlt, Nat.min_eq_left hlt, State.rxXorTo, rxXorTo_storeBodyByte_of_le b (Nat.le_refl _), rxByte_storeBodyByte,
      if_pos rfl, h]
  · have hle := Nat.not_lt.mp hlt
    rw [Nat.min_eq_right hle] at h
    rw [if_neg hlt, Nat.min_eq_right (by omega), rxXorTo_storeBodyByte_of_le b hle, h]

/-- Every body byte has its place in RX_BUF (10_state.md R36, R41). -/
theorem rxPos_lt_of_inv {s : State} (h : s.Inv) (hbody : s.rxst = .body) : s.rxPos.toNat < Config.rxBufSize := by
  have hpos := h.counters.rx_pos_body hbody
  have hlen : s.rxLen.toNat < 65536 := s.rxLen.isLt
  simp only [Config.rxBufSize]
  omega

theorem takeBodyByte_inv {s : State} (b : Byte) (h : s.Inv) (hrun : s.inReset = false) (hbody : s.rxst = .body) :
    ∃ t, takeBodyByte b s = .next t ∧ t.Inv := by
  have hpos := rxPos_lt_of_inv h hbody
  have hlt := h.counters.rx_pos_body hbody
  have hrx : s.rxst ≠ .idle := by rw [hbody]; decide
  have hbufs : (storeBodyByte b s).BufferInv := ⟨h.buffers.tx_wf, wf_memWrite h.buffers.rx_wf hpos⟩
  have hle : (storeBodyByte b s).rxPos.toNat ≤ (storeBodyByte b s).rxLen.toNat + 3 := by
    rw [storeBodyByte_rxPos, toNat_rxPos_succ hpos]
    exact hlt
  obtain ⟨-, heq⟩ | ⟨⟨-, hnot⟩, heq⟩ | ⟨hfault, -⟩ := takeBodyByte_cases b s
  · have hbusy := busy_of_receiving h hrx
    refine ⟨_, heq, inv_endReceive ?_ ?_ (h.control.recv_op (h.control.receiver_iff.mp hrx)) (isReceiveEnd_verdict _)⟩
    · exact { busyInv_of_inv h hrun hbusy with rx_pos := hle, buffers := hbufs }
    · exact { attemptInv_of_inv h hbusy with }
  · refine ⟨_, heq, ?_, ?_, ⟨fun _ => rxXor_storeBodyByte hpos (h.checksums.rx_xor hbody), fun hx => ?_⟩, hbufs⟩
    · exact { h.control with reset_values := fun hreset => absurd (hreset.symm.trans hrun) (by decide) }
    · exact
        { h.counters with
          rx_pos := hle
          rx_pos_body := fun _ => by rw [storeBodyByte_rxPos, toNat_rxPos_succ hpos]; exact Nat.lt_of_le_of_ne hlt hnot
          rx_pos_header := fun _ hb => absurd hbody hb }
    · exact (h.checksums.tx_xor hx).trans (txXorTo_of_txBuf (by rfl) (by rfl) _)
  · exact absurd hpos hfault

theorem takeEvent_inv {s : State} (e : RxEvent) (h : s.Inv) (hrun : s.inReset = false) (hrx : s.rxst ≠ .idle) :
    ∃ t, takeEvent e s = .next t ∧ t.Inv := by
  have setRxst_inv : ∀ x, s.rxst ≠ .body → (x = .seek1 ∨ x = .seek2 ∨ x = .lenH) → (setRxst x s).Inv := fun x hb hx =>
    inv_header h hrun hrx hb (by rcases hx with rfl | rfl | rfl <;> decide) (by rcases hx with rfl | rfl | rfl <;> decide)
      s.rxLen
  obtain ⟨hidle, -⟩ | ⟨-, -, heq⟩ | ⟨-, -, heq⟩ |
    ⟨b, -, ⟨hst, heq⟩ | ⟨hst, heq⟩ | ⟨hst, heq⟩ | ⟨hst, heq⟩ | ⟨hst, heq⟩⟩ := takeEvent_cases e s
  · exact absurd hidle hrx
  · exact ⟨_, heq, inv_endReceive_of_inv h hrun hrx rfl⟩
  · exact ⟨_, heq, inv_endReceive_of_inv h hrun hrx rfl⟩
  · refine ⟨_, heq, setRxst_inv _ (by rw [hst]; decide) ?_⟩
    split
    · exact .inr (.inl rfl)
    · exact .inl rfl
  · refine ⟨_, heq, setRxst_inv _ (by rw [hst]; decide) ?_⟩
    split
    · exact .inr (.inr rfl)
    · split
      · exact .inr (.inl rfl)
      · exact .inl rfl
  · exact ⟨_, heq, inv_header h hrun hrx (by rw [hst]; decide) (by decide) (by decide) _⟩
  · exact ⟨_, heq, inv_takeLengthLow h hrun hrx b⟩
  · rw [heq]
    exact takeBodyByte_inv b h hrun hst

theorem takeBytes_inv {s : State} (bs : List Byte) (h : s.Inv) : ∃ t, takeBytes bs s = .next t ∧ t.Inv := by
  induction bs generalizing s with
  | nil => exact ⟨s, rfl, h⟩
  | cons b bs ih =>
    cases hrx : s.takesRx with
    | false => exact ⟨_, takeBytes_of_not_takesRx hrx _, inv_setRxQ h _⟩
    | true =>
      obtain ⟨hst, hrun⟩ := not_inReset_of_takesRx hrx
      obtain ⟨t, ht, hinv⟩ := takeEvent_inv (.byte b) h hrun hst
      simp only [takeBytes, hrx, ht]
      exact ih hinv

/-! The encoder. -/

/-- TX_POS does not wrap within a frame. -/
theorem toNat_txPos_succ {s : State} (h : s.txPos.toNat ≤ s.txLen.toNat + 6) : (s.txPos + 1).toNat = s.txPos.toNat + 1 := by
  have hlen : s.txLen.toNat < 65536 := s.txLen.isLt
  rw [BitVec.toNat_add_of_lt (by simp; omega)]
  rfl

/-- The running checksum stays that of the bytes accepted so far (41_encoder.md R173). -/
theorem txXor_advanceTx {s : State} {p : Nat} (hp : s.txPos.toNat = p)
    (h : s.txXor = s.txXorTo (min (p - 4) s.txLen.toNat)) :
    (advanceTx s).txXor = s.txXorTo (min (p + 1 - 4) s.txLen.toNat) := by
  rw [advanceTx_txXor, hp, h]
  by_cases hcontent : 4 ≤ p ∧ p ≤ s.txLen.toNat + 3
  · have hnext : min (p + 1 - 4) s.txLen.toNat = min (p - 4) s.txLen.toNat + 1 := by omega
    have hindex : min (p - 4) s.txLen.toNat = p - 4 := by omega
    rw [if_pos hcontent, hnext, State.txXorTo, hindex]
  · have hsame : min (p + 1 - 4) s.txLen.toNat = min (p - 4) s.txLen.toNat := by omega
    rw [if_neg hcontent, hsame]

theorem inv_txAnswer {s : State} (ans : TxAnswer) (h : s.Inv) (hrun : s.inReset = false) (htx : s.sqst = .xmit) :
    (txAnswer ans s).Inv := by
  have hbusy := busy_of_transmitting h htx
  have hop := h.control.xmit_op htx
  have hpos := h.counters.tx_pos_xmit htx
  have hsucc : (advanceTx s).txPos.toNat = s.txPos.toNat + 1 := toNat_txPos_succ hpos
  have hlen : s.txLen.toNat < 65536 := s.txLen.isLt
  have hle : (advanceTx s).txPos.toNat ≤ 65542 := by omega
  obtain ⟨-, heq⟩ | ⟨⟨-, hnot⟩, heq⟩ | ⟨-, heq⟩ := txAnswer_cases ans s
  · rw [heq]
    exact inv_endTransmit { busyInv_of_inv h hrun hbusy with tx_pos := hle, buffers := { h.buffers with } }
      { attemptInv_of_inv h hbusy with } hop (.inl rfl)
  · rw [heq]
    refine ⟨?_, ?_, ⟨fun hb => ?_, fun hx => ?_⟩, { h.buffers with }⟩
    · exact { h.control with reset_values := fun hreset => absurd (hreset.symm.trans hrun) (by decide) }
    · exact
        { h.counters with
          tx_pos := hle
          tx_pos_xmit := fun _ => by rw [hsucc, advanceTx_txLen]; omega }
    · exact (h.checksums.rx_xor hb).trans (rxXorTo_of_rxBuf (by rfl) _)
    · rw [hsucc, txXor_advanceTx rfl (h.checksums.tx_xor hx)]
      exact txXorTo_of_txBuf (by rfl) (by rfl) _
  · rw [heq]
    exact inv_endTransmit (busyInv_of_inv h hrun hbusy) (attemptInv_of_inv h hbusy) hop (.inr rfl)

/-! Reset. -/

/-- The reset step leaves only the buffers to the state before (70_reset_and_hazards.md R300). -/
theorem inv_resetStep {s : State} (h : s.BufferInv) : (resetStep s).Inv where
  control :=
    { busy_iff := ⟨(nomatch ·), fun hsq => absurd rfl hsq⟩
      receiver_iff := ⟨fun hrx => absurd rfl hrx, (nomatch ·)⟩
      busy_no_result := (nomatch ·)
      busy_not_done := (nomatch ·)
      busy_op := (nomatch ·)
      xmit_op := (nomatch ·)
      recv_op := (nomatch ·)
      busy_len := (nomatch ·)
      done_result := (nomatch ·)
      result_legal := fun hr => absurd rfl hr
      cause_legal := fun hc => absurd rfl hc
      cause_lcause := fun hc => absurd rfl hc
      lcause_send := fun hl => absurd rfl hl
      reset_values := fun _ => rfl }
  counters :=
    { rx_pos := Nat.zero_le _
      rx_pos_body := (nomatch ·)
      rx_pos_header := fun hrx => absurd rfl hrx
      tx_pos := Nat.zero_le _
      tx_pos_xmit := (nomatch ·)
      irr_count := Nat.zero_le _
      send_attempts := (nomatch ·)
      lcause_attempts := fun hl => absurd rfl hl
      lcause_retry := (nomatch ·)
      exceeded_unsent := (nomatch ·) }
  checksums := { rx_xor := (nomatch ·), tx_xor := (nomatch ·) }
  buffers := { h with }

theorem inv_releaseReset {s : State} (h : s.Inv) : (releaseReset s).Inv where
  control := { h.control with reset_values := (nomatch ·) }
  counters := { h.counters with }
  checksums :=
    { rx_xor := fun hb => (h.checksums.rx_xor hb).trans (rxXorTo_of_rxBuf (by rfl) _)
      tx_xor := fun hx => (h.checksums.tx_xor hx).trans (txXorTo_of_txBuf (by rfl) (by rfl) _) }
  buffers := { h.buffers with }

/-- A write in reset draws TX_BUF anew, which no running checksum speaks of (93 I5; log entry 5). -/
theorem inv_scrambleTx {s : State} (h : s.Inv) (hreset : s.inReset = true) : (scrambleTx s).Inv := by
  have hvalues := h.control.reset_values hreset
  have hidle : s.sqst = .idle := by rw [← hvalues]; rfl
  exact
    { control := { h.control with reset_values := fun _ => congrArg scrambleTx hvalues }
      counters := { h.counters with }
      checksums :=
        { rx_xor := fun hb => (h.checksums.rx_xor hb).trans (rxXorTo_of_rxBuf (by rfl) _)
          tx_xor := fun hx => absurd (hidle.symm.trans hx) (by decide) }
      buffers := { tx_wf := wf_empty _, rx_wf := h.buffers.rx_wf } }

/-! The host's writes. -/

/-- With no operation running CONFIG, TX_LEN, TX_INDEX and TX_BUF may change. -/
theorem inv_frameSetup {s : State} (h : s.Inv) (hrun : s.inReset = false) (hidle : s.busy = false) (m b : BitVec 8) (i : Bool)
    (l x : BitVec 16) {buf : Memory} (hbuf : Memory.wf Config.txBufSize buf) :
    State.Inv { s with maxAttempts := m, irrBound := b, ie := i, txLen := l, txIndex := x, txBuf := buf } := by
  have hsq := sqst_idle_of_not_busy h hidle
  exact
    { control :=
        { h.control with
          busy_len := fun hb => absurd (hb.symm.trans hidle) (by decide)
          reset_values := fun hreset => absurd (hreset.symm.trans hrun) (by decide) }
      counters :=
        { h.counters with
          tx_pos_xmit := fun hx => absurd (hsq.symm.trans hx) (by decide)
          send_attempts := fun hb => absurd (hb.symm.trans hidle) (by decide) }
      checksums :=
        { rx_xor := fun hb => (h.checksums.rx_xor hb).trans (rxXorTo_of_rxBuf (by rfl) _)
          tx_xor := fun hx => absurd (hsq.symm.trans hx) (by decide) }
      buffers := { tx_wf := hbuf, rx_wf := h.buffers.rx_wf } }

/-- An accepted command has forgotten the last operation (40_host_access.md R134). -/
theorem busyInv_accept {s : State} (h : s.Inv) (hrun : s.inReset = false) {op : Op} (hlen : op ≠ .recv → 1 ≤ s.txLen.toNat) :
    (accept op s).BusyInv :=
  { restInv_of_inv h hrun with
    lcause_send := fun hl => absurd rfl hl
    lcause_attempts := fun hl => absurd rfl hl
    buffers := { h.buffers with }
    busy := rfl
    not_done := rfl
    no_result := rfl
    no_cause := rfl
    busy_len := hlen }

/-- Only a SEND counts attempts, and an accepted command has no failed one. -/
theorem attemptInv_accept {s : State} {op : Op} (hop : op ≠ .send) : (accept op s).AttemptInv where
  attempts := fun h => absurd h hop
  irr_count := fun h => absurd h hop
  retry := fun hl => absurd rfl hl

theorem one_le_toNat_of_ne_zero {w : Nat} {x : BitVec w} (h : x ≠ 0) : 1 ≤ x.toNat :=
  Nat.one_le_iff_ne_zero.mpr fun h0 => h (eq_zero_of_toNat h0)

theorem inv_startSend_accept {s : State} (h : s.Inv) (hrun : s.inReset = false) (hidle : s.busy = false)
    (hlen : s.txLen ≠ 0) : (startSend (accept .send s)).Inv := by
  have haccept : (accept .send s).BusyInv := busyInv_accept h hrun fun _ => one_le_toNat_of_ne_zero hlen
  have hclear : (clearCounts (accept .send s)).BusyInv :=
    { haccept with
      lcause_attempts := fun hl => absurd rfl hl
      irr_count := Nat.zero_le _
      buffers := { h.buffers with } }
  have hrx : s.rxst = .idle := rxst_idle_of_sqst h (by rw [sqst_idle_of_not_busy h hidle]; decide)
  obtain ⟨-, heq⟩ | ⟨hmax, heq⟩ := startSend_cases (accept .send s)
  · rw [heq]
    exact inv_complete hclear.toRestInv rfl (fun hc => absurd rfl hc) (fun _ _ => rfl)
  · rw [heq]
    exact inv_startAttempt hclear rfl (one_le_toNat_of_ne_zero hmax) hrx

theorem inv_issueCommand {s : State} (op : BitVec 4) (h : s.Inv) (hrun : s.inReset = false) : (issueCommand op s).Inv := by
  obtain ⟨-, heq⟩ | ⟨-, heq⟩ | ⟨⟨-, hidle⟩, heq⟩ | ⟨⟨-, hidle, hlen⟩, heq⟩ | ⟨⟨-, hidle, hlen⟩, heq⟩ :=
    issueCommand_cases op s
  · rw [heq]
    exact h
  · rw [heq]
    exact inv_refuseWrite h hrun
  · rw [heq]
    exact inv_startReceive (busyInv_accept h hrun fun hop => absurd rfl hop) (attemptInv_accept (by decide)) (.inl rfl)
  · have hrx : s.rxst = .idle := rxst_idle_of_sqst h (by rw [sqst_idle_of_not_busy h hidle]; decide)
    rw [heq]
    exact inv_startTransmit (busyInv_accept h hrun fun _ => one_le_toNat_of_ne_zero hlen) (attemptInv_accept (by decide))
      (.inl rfl) hrx
  · rw [heq]
    exact inv_startSend_accept h hrun hidle hlen

theorem inv_unlessBusy {f : State → State} {s : State} (h : s.Inv) (hrun : s.inReset = false)
    (hf : s.busy = false → (f s).Inv) : (unlessBusy f s).Inv := by
  obtain ⟨-, heq⟩ | ⟨hidle, heq⟩ := unlessBusy_cases f s
  · rw [heq]
    exact inv_refuseWrite h hrun
  · rw [heq]
    exact hf hidle

theorem inv_writeEffect {s : State} (v : Word) (r : Reg) (h : s.Inv) (hrun : s.inReset = false) : (writeEffect v r s).Inv := by
  cases r with
  | cmd => exact inv_issueCommand _ h hrun
  | status =>
    refine inv_flags h hrun (fun hd => ?_) (if v.getLsbD 2 then false else s.cmdErr) s.ie s.txIndex s.rxIndex
    split at hd
    · cases hd
    · exact hd
  | config =>
    exact inv_unlessBusy h hrun fun hidle =>
      inv_frameSetup h hrun hidle (v.extractLsb' 0 8) (v.extractLsb' 8 8) (v.getLsbD 16) s.txLen s.txIndex h.buffers.tx_wf
  | txLen =>
    exact inv_unlessBusy h hrun fun hidle =>
      inv_frameSetup h hrun hidle s.maxAttempts s.irrBound s.ie (v.extractLsb' 0 16) s.txIndex h.buffers.tx_wf
  | txIndex =>
    exact inv_unlessBusy h hrun fun hidle =>
      inv_frameSetup h hrun hidle s.maxAttempts s.irrBound s.ie s.txLen (v.extractLsb' 0 16) h.buffers.tx_wf
  | txData =>
    exact inv_unlessBusy h hrun fun hidle =>
      inv_frameSetup h hrun hidle s.maxAttempts s.irrBound s.ie s.txLen (s.txIndex + 1)
        (wf_memWrite h.buffers.tx_wf s.txIndex.isLt)
  | rxIndex => exact inv_flags h hrun (d := s.done) id s.cmdErr s.ie s.txIndex (v.extractLsb' 0 17)
  | _ => exact h

theorem hostTurn_inv {s : State} (a : Access) (h : s.Inv) : ∃ t, hostTurn a s = .next t ∧ t.Inv := by
  obtain ⟨x, -, heq⟩ | ⟨r, v, w, d, -, heq⟩ | ⟨r, v, -, heq⟩ := hostTurn_eq a s
  · exact ⟨_, heq, inv_respond h x⟩
  · exact ⟨_, heq, inv_ports h d (.data w) s.agenda s.rxQ s.sent⟩
  · rw [heq]
    obtain ⟨hreset, hw⟩ | ⟨hrun, hw⟩ := hostWrite_cases (writeEffect v r) s
    · exact ⟨_, hw, inv_respond (inv_scrambleTx h hreset) _⟩
    · exact ⟨_, hw, inv_respond (inv_writeEffect v r h hrun) _⟩

/-! Every turn. -/

theorem rxTurn_inv {s : State} (h : s.Inv) : ∃ t, rxTurn s = .next t ∧ t.Inv := by
  cases hrx : s.takesRx with
  | false => exact ⟨s, rxTurn_of_not_takesRx hrx, h⟩
  | true =>
    obtain ⟨hst, hrun⟩ := not_inReset_of_takesRx hrx
    cases hq : s.rxQ with
    | nil => exact ⟨s, rxTurn_of_empty hq, h⟩
    | cons e q =>
      rw [rxTurn_of_takesRx hrx hq]
      exact takeEvent_inv e (inv_setRxQ h q) hrun hst

theorem takeTurn_inv {s : State} (turn : Turn) (h : s.Inv) : ∃ t, takeTurn turn s = .next t ∧ t.Inv := by
  cases turn with
  | host a => exact hostTurn_inv a h
  | rx => exact rxTurn_inv h
  | rxFrame =>
    obtain ⟨ident, payload, q, -, heq⟩ | heq := rxFrameTurn_cases s
    · obtain ⟨t, ht, hinv⟩ := takeBytes_inv (frameBytes ident payload) (inv_setRxQ h q)
      exact ⟨t, heq.trans ht, hinv⟩
    · obtain ⟨t, ht, hinv⟩ := rxTurn_inv h
      exact ⟨t, heq.trans ht, hinv⟩
  | tx ans =>
    cases htx : s.offersTx with
    | false => exact ⟨s, by rw [takeTurn, txTurn, htx]; rfl, h⟩
    | true =>
      obtain ⟨hsq, hrun⟩ : s.sqst = .xmit ∧ s.inReset = false := by simpa [State.offersTx] using htx
      exact ⟨txAnswer ans s, by rw [takeTurn, txTurn, htx]; rfl, inv_txAnswer ans h hrun hsq⟩
  | assertReset => exact ⟨resetStep s, rfl, inv_resetStep h.buffers⟩
  | releaseReset => exact ⟨releaseReset s, rfl, inv_releaseReset h⟩

/-- A step from a state that satisfies the invariant answers one that does. -/
theorem step_inv {s : State} (h : s.Inv) : ∃ t, step s = .next t ∧ t.Inv := by
  obtain ⟨-, heq⟩ | ⟨turn, rest, -, heq⟩ := step_cases s
  · exact ⟨s, heq, h⟩
  · rw [heq]
    exact takeTurn_inv turn (inv_setAgenda h rest)

theorem inv_reset : State.reset.Inv :=
  inv_releaseReset (inv_resetStep (s := State.reset) ⟨reset_buffers_wf.1, reset_buffers_wf.2⟩)

/-- The invariant holds along every run. -/
theorem runSteps_inv {n : Nat} {s t : State} (h : s.Inv) (hrun : runSteps n s = .next t) : t.Inv := by
  induction n generalizing s with
  | zero => cases hrun; exact h
  | succ n ih =>
    obtain ⟨u, hu, hinv⟩ := step_inv h
    simp only [runSteps, hu] at hrun
    exact ih hinv hrun

/-! The statements. -/

/-- Settles O52: the step's next state is the one `step_inv` gives. -/
theorem stepKeepsInv : Obligations.StepKeepsInv := by
  intro s t h hstep
  obtain ⟨u, hu, hinv⟩ := step_inv h
  cases hu.symm.trans hstep
  exact hinv

/-- Settles O53: the step has a next state, the one `step_inv` gives. -/
theorem stepNeverStops : Obligations.StepNeverStops := fun _ h => (step_inv h).imp fun _ ht => ht.1

/-- Settles O51: the reset state is that of a reset that is asserted and released. -/
theorem resetStateSatisfiesInv : Obligations.ResetStateSatisfiesInv := inv_reset

/-- Settles O54: the clauses are some of the invariant's, which holds along the run. -/
theorem reachableStatesKeepR44 : Obligations.ReachableStatesKeepR44 := by
  intro n turns q t hrun
  have h : t.Inv := runSteps_inv (inv_ports inv_reset 0 .none turns q []) hrun
  refine ⟨h.control.busy_iff, h.control.receiver_iff, h.control.busy_no_result, fun hl => ?_, fun hx => ?_⟩
  · exact ⟨(h.control.lcause_send hl).1, h.counters.lcause_attempts hl, fun hb => h.counters.lcause_retry hb hl⟩
  · refine h.control.busy_len (busy_of_transmitting h hx) fun hop => ?_
    rcases h.control.xmit_op hx with hop' | hop' <;> cases hop.symm.trans hop'

end Sys2Proof.Claims
end

section
/-! PROOFS of the family 'other', the sequencer (43_sequencer.md) and CMD_ERR (60_exceptions.md section 3): what ends a phase, by
the operation, and which steps set and clear CMD_ERR. -/

open Sys2Proof.Machine

namespace Sys2Proof.Claims

/-! The ends of a phase, by the operation. -/

theorem endReceive_recv {s : State} (h : s.op = .recv) (r : Code) : endReceive r s = complete r .none (stopPorts s) := by
  rw [endReceive, h]

theorem endReceive_send_ok {s : State} (h : s.op = .send) :
    endReceive .ok s = classifyAs (s.rxByte 0) (stopPorts s) := by
  rw [endReceive, h]
  rfl

theorem endReceive_send_of_ne_ok {s : State} (h : s.op = .send) {r : Code} (hr : r ≠ .ok) :
    endReceive r s = attemptFailed r (stopPorts s) := by
  rw [endReceive, h]
  exact if_neg hr

theorem endTransmit_xmit {s : State} (h : s.op = .xmit) (r : Code) : endTransmit r s = complete r .none (stopEncoder s) := by
  rw [endTransmit, h]

theorem endTransmit_send_ok {s : State} (h : s.op = .send) : endTransmit .ok s = startReceive (stopEncoder s) := by
  rw [endTransmit, h]
  rfl

theorem endTransmit_send_txErr {s : State} (h : s.op = .send) :
    endTransmit .txErr s = complete .txErr .none (stopEncoder s) := by
  rw [endTransmit, h]
  rfl

/-- A failed attempt leaves the state the statements write out. -/
theorem attemptFailed_eq_afterFailure (c : Code) (s : State) : attemptFailed c s = afterFailure c s := by
  obtain ⟨hlt, h⟩ | ⟨hnot, h⟩ := attemptFailed_cases c s
  · exact h.trans (if_pos (c := s.attempts.toNat < s.maxAttempts.toNat) hlt).symm
  · exact h.trans (if_neg (c := s.attempts.toNat < s.maxAttempts.toNat) hnot).symm

theorem classifyAs_ack {s : State} (h : s.targetMatches) : classifyAs Config.ackId s = complete .ok .none s :=
  if_pos ⟨rfl, h⟩

theorem classifyAs_nack {s : State} (h : s.targetMatches) : classifyAs Config.nackId s = attemptFailed .nack s := by
  rw [classifyAs, if_neg fun hack => absurd hack.1 (by decide), if_pos ⟨rfl, h⟩]

theorem classifyAs_of_not_acknowledgement {i : Byte} {s : State}
    (h : ¬ ((i = Config.ackId ∨ i = Config.nackId) ∧ s.targetMatches)) : classifyAs i s = irrelevant s := by
  obtain ⟨⟨rfl, hm⟩, -⟩ | ⟨⟨rfl, hm⟩, -⟩ | ⟨-, heq⟩ := classifyAs_cases i s
  · exact absurd ⟨.inl rfl, hm⟩ h
  · exact absurd ⟨.inr rfl, hm⟩ h
  · exact heq

/-- IRR_COUNT does not wrap while it is below 511 (10_state.md R35). -/
theorem toNat_irrCount_succ {s : State} (h : s.irrCount.toNat < 511) : (s.irrCount + 1).toNat = s.irrCount.toNat + 1 := by
  rw [BitVec.toNat_add_of_lt (by simp; omega)]
  rfl

theorem irrelevant_within {s : State} (h : s.irrCount.toNat < 511) (hle : s.irrCount.toNat + 1 ≤ s.irrBound.toNat) :
    irrelevant s = startReceive (countIrrelevant s) := by
  rw [irrelevant, toNat_irrCount_succ h, if_neg (Nat.not_lt.mpr hle)]

theorem irrelevant_beyond {s : State} (h : s.irrCount.toNat < 511) (hlt : s.irrBound.toNat < s.irrCount.toNat + 1) :
    irrelevant s = attemptFailed .irrelevant (countIrrelevant s) := by
  rw [irrelevant, toNat_irrCount_succ h, if_pos hlt]

theorem txTurn_of_xmit {s : State} (ans : TxAnswer) (htx : s.sqst = .xmit) (hrun : s.inReset = false) :
    txTurn ans s = .next (txAnswer ans s) := by
  rw [txTurn, State.offersTx, decide_eq_true htx, hrun]
  rfl

theorem step_rx {s : State} {e : RxEvent} {q : List RxEvent} {rest : List Turn} (hagenda : s.agenda = .rx :: rest)
    (hq : s.rxQ = e :: q) (hrx : s.rxst ≠ .idle) (hrun : s.inReset = false) :
    step s = takeEvent e (setRxQ q (setAgenda rest s)) := by
  rw [step_of_agenda hagenda]
  exact rxTurn_of_takesRx (s := setAgenda rest s) (takesRx_eq_true hrx hrun) hq

theorem takeEvent_eos {s : State} (h : s.rxst ≠ .idle) : takeEvent .eos s = .next (endReceive .eos s) := by
  unfold takeEvent
  split <;> simp_all

theorem takeEvent_rxErr {s : State} (h : s.rxst ≠ .idle) : takeEvent .rxErr s = .next (endReceive .rxErr s) := by
  unfold takeEvent
  split <;> simp_all

/-! Which turns change CMD_ERR. -/

theorem takeEvent_cmdErr {e : RxEvent} {s t : State} (h : takeEvent e s = .next t) : t.cmdErr = s.cmdErr := by
  obtain ⟨-, heq⟩ | ⟨-, -, heq⟩ | ⟨-, -, heq⟩ |
    ⟨b, -, ⟨-, heq⟩ | ⟨-, heq⟩ | ⟨-, heq⟩ | ⟨-, heq⟩ | ⟨-, heq⟩⟩ := takeEvent_cases e s
  case inr.inr.inr.inr.inr.inr.inr =>
    obtain ⟨-, hbody⟩ | ⟨-, hbody⟩ | ⟨-, hbody⟩ := takeBodyByte_cases b s
    · cases h.symm.trans (heq.trans hbody); simp
    · cases h.symm.trans (heq.trans hbody); simp
    · cases h.symm.trans (heq.trans hbody)
  all_goals cases h.symm.trans heq; simp

theorem takeBytes_cmdErr {bs : List Byte} {s t : State} (h : takeBytes bs s = .next t) : t.cmdErr = s.cmdErr := by
  induction bs generalizing s with
  | nil => cases h; rfl
  | cons b bs ih =>
    obtain ⟨-, u, hu, heq⟩ | ⟨-, r, -, heq⟩ | ⟨-, r, -, heq⟩ | ⟨-, heq⟩ := takeBytes_cons b bs s
    · rw [ih (heq.symm.trans h), takeEvent_cmdErr hu]
    · cases h.symm.trans heq
    · cases h.symm.trans heq
    · cases h.symm.trans heq; rfl

theorem rxTurn_cmdErr {s t : State} (h : rxTurn s = .next t) : t.cmdErr = s.cmdErr := by
  cases hrx : s.takesRx with
  | false => cases h.symm.trans (rxTurn_of_not_takesRx hrx); rfl
  | true =>
    cases hq : s.rxQ with
    | nil => cases h.symm.trans (rxTurn_of_empty hq); rfl
    | cons e q => exact takeEvent_cmdErr (s := setRxQ q s) ((rxTurn_of_takesRx hrx hq).symm.trans h)

theorem txAnswer_cmdErr (ans : TxAnswer) (s : State) : (txAnswer ans s).cmdErr = s.cmdErr := by
  obtain ⟨-, h⟩ | ⟨-, h⟩ | ⟨-, h⟩ := txAnswer_cases ans s
  all_goals simp [h]

/-- A turn is the assertion of reset, an admitted write outside reset, or one that leaves CMD_ERR. -/
theorem takeTurn_cmdErr {turn : Turn} {s t : State} (h : takeTurn turn s = .next t) :
    (turn = .assertReset ∧ t.cmdErr = false) ∨
    (∃ r v, turn = wordWrite r v ∧ s.inReset = false ∧ t = respond .done (writeEffect v r s)) ∨
    ((turn ≠ .assertReset ∧ ∀ r v, turn = wordWrite r v → s.inReset = true) ∧ t.cmdErr = s.cmdErr) := by
  cases turn with
  | assertReset => cases h; exact .inl ⟨rfl, rfl⟩
  | releaseReset => cases h; exact .inr (.inr ⟨⟨(nomatch ·), fun _ _ h => nomatch h⟩, rfl⟩)
  | rx => exact .inr (.inr ⟨⟨(nomatch ·), fun _ _ h => nomatch h⟩, rxTurn_cmdErr h⟩)
  | rxFrame =>
    refine .inr (.inr ⟨⟨(nomatch ·), fun _ _ h => nomatch h⟩, ?_⟩)
    obtain ⟨ident, payload, q, -, heq⟩ | heq := rxFrameTurn_cases s
    · exact takeBytes_cmdErr (s := setRxQ q s) (heq.symm.trans h)
    · exact rxTurn_cmdErr (heq.symm.trans h)
  | tx ans =>
    refine .inr (.inr ⟨⟨(nomatch ·), fun _ _ h => nomatch h⟩, ?_⟩)
    simp only [takeTurn, txTurn] at h
    split at h
    · cases h; exact txAnswer_cmdErr ans s
    · cases h; rfl
  | host a =>
    obtain ⟨x, hnot, heq⟩ | ⟨r, v, w, d, rfl, heq⟩ | ⟨r, v, rfl, heq⟩ := hostTurn_eq a s
    · cases h.symm.trans heq
      exact .inr (.inr ⟨⟨(nomatch ·), fun r v hturn => absurd (Turn.host.inj hturn) (hnot .write r v)⟩, rfl⟩)
    · cases h.symm.trans heq
      exact .inr (.inr ⟨⟨(nomatch ·), fun _ _ h => nomatch h⟩, rfl⟩)
    · obtain ⟨hreset, hw⟩ | ⟨hrun, hw⟩ := hostWrite_cases (writeEffect v r) s
      · cases h.symm.trans (heq.trans hw)
        exact .inr (.inr ⟨⟨(nomatch ·), fun _ _ _ => hreset⟩, rfl⟩)
      · cases h.symm.trans (heq.trans hw)
        exact .inr (.inl ⟨r, v, rfl, hrun, rfl⟩)

theorem wordWrite_injective {r r' : Reg} {v v' : Word} (h : wordWrite r v = wordWrite r' v') : r = r' ∧ v = v' := by
  injection h with h
  injection h with _ hoff _ hdata
  exact ⟨off_injective hoff, hdata⟩

/-! The writes that are refused (60_exceptions.md R279). -/

/-- A command is refused as `issueCommand` has it (40_host_access.md R134). -/
theorem refused_cmd_iff (v : Word) (s : State) : refused .cmd v s ↔
    0x4#4 ≤ v.extractLsb' 0 4 ∨ (v.extractLsb' 0 4 ≠ 0x0#4 ∧ s.busy = true) ∨
      ((v.extractLsb' 0 4 = 0x2#4 ∨ v.extractLsb' 0 4 = 0x3#4) ∧ s.txLen = 0) := by
  have hop : ∀ op : BitVec 4, (0x4#4 ≤ op ↔ 4 ≤ op.toNat) ∧ (op ≠ 0x0#4 ↔ 4 ≤ op.toNat ∨ op.toNat ∈ [1, 2, 3]) ∧
      (op = 0x2#4 ∨ op = 0x3#4 ↔ op.toNat ∈ [2, 3]) := by decide
  obtain ⟨hres, hnop, hsend⟩ := hop (v.extractLsb' 0 4)
  have hlen : s.txLen = 0 ↔ s.txLen.toNat = 0 := BitVec.toNat_inj.symm
  have hreg : ¬ Reg.cmd ∈ [Reg.config, .txLen, .txIndex, .txData] := by decide
  rw [refused, hres, hnop, hsend, hlen, or_and_right]
  constructor
  · rintro (⟨-, h | h | h⟩ | ⟨h, -⟩)
    · exact .inl h
    · exact .inr (.inl (.inr h))
    · exact .inr (.inr h)
    · exact absurd h hreg
  · rintro (h | (⟨h, -⟩ | h) | h)
    · exact .inl ⟨rfl, .inl h⟩
    · exact .inl ⟨rfl, .inl h⟩
    · exact .inl ⟨rfl, .inr (.inl h)⟩
    · exact .inl ⟨rfl, .inr (.inr h)⟩

theorem refused_iff_busy {r : Reg} (h : r = .config ∨ r = .txLen ∨ r = .txIndex ∨ r = .txData) (v : Word) (s : State) :
    refused r v s ↔ s.busy = true := by
  obtain rfl | rfl | rfl | rfl := h <;> simp [refused]

/-- A write other than these is never refused. -/
theorem not_refused {r : Reg} (hcmd : r ≠ .cmd) (h : ¬ (r = .config ∨ r = .txLen ∨ r = .txIndex ∨ r = .txData)) (v : Word)
    (s : State) : ¬ refused r v s := by
  rintro (⟨hc, -⟩ | ⟨hmem, -⟩)
  · exact hcmd hc
  · exact h (by simpa using hmem)

/-- A refused write sets CMD_ERR and does nothing else; any other leaves CMD_ERR, but a STATUS write with bit 2 clears it. -/
theorem writeEffect_cmdErr (v : Word) (r : Reg) (s : State) :
    (refused r v s ∧ writeEffect v r s = refuseWrite s) ∨
    (¬ refused r v s ∧ (writeEffect v r s).cmdErr = (s.cmdErr && !(decide (r = .status) && v.getLsbD 2))) := by
  have stores : ∀ f : State → State, (r = .config ∨ r = .txLen ∨ r = .txIndex ∨ r = .txData) → r ≠ .status →
      writeEffect v r s = unlessBusy f s → (f s).cmdErr = s.cmdErr →
      (refused r v s ∧ writeEffect v r s = refuseWrite s) ∨
      (¬ refused r v s ∧ (writeEffect v r s).cmdErr = (s.cmdErr && !(decide (r = .status) && v.getLsbD 2))) := by
    intro f hr hstatus heq hf
    rw [refused_iff_busy hr, heq, decide_eq_false hstatus]
    obtain ⟨hbusy, h⟩ | ⟨hidle, h⟩ := unlessBusy_cases f s
    · exact .inl ⟨hbusy, h⟩
    · exact .inr ⟨by simp [hidle], by simp [h, hf]⟩
  cases r with
  | cmd =>
    rw [refused_cmd_iff]
    by_cases href : 0x4#4 ≤ v.extractLsb' 0 4 ∨ (v.extractLsb' 0 4 ≠ 0x0#4 ∧ s.busy = true) ∨
      ((v.extractLsb' 0 4 = 0x2#4 ∨ v.extractLsb' 0 4 = 0x3#4) ∧ s.txLen = 0)
    · refine .inl ⟨href, ?_⟩
      obtain hres | ⟨hnop, hbusy⟩ | ⟨hop, hlen⟩ := href
      · exact issueCommand_reserved (BitVec.le_def.mp hres) s
      · exact issueCommand_of_busy hnop hbusy
      · exact issueCommand_of_empty hop hlen
    · refine .inr ⟨href, ?_⟩
      obtain ⟨-, heq⟩ | ⟨hno, -⟩ | ⟨-, heq⟩ | ⟨-, heq⟩ | ⟨-, heq⟩ := issueCommand_cases (v.extractLsb' 0 4) s
      · simp [writeEffect, heq]
      · exact absurd hno href
      all_goals simp [writeEffect, heq]
  | config => exact stores (writeConfig v) (by decide) (by decide) rfl rfl
  | txLen => exact stores (writeTxLen v) (by decide) (by decide) rfl rfl
  | txIndex => exact stores (writeTxIndex v) (by decide) (by decide) rfl rfl
  | txData => exact stores (writeTxData v) (by decide) (by decide) rfl rfl
  | status => exact .inr ⟨not_refused (by decide) (by decide) v s, by simp [writeEffect, writeStatus_eq]⟩
  | _ => exact .inr ⟨not_refused (by decide) (by decide) v s, (Bool.and_true _).symm⟩

/-- What the step of an admitted write outside reset does to CMD_ERR. -/
theorem cmdErr_of_write {s t : State} {rest : List Turn} {r : Reg} {v : Word} (hrun : s.inReset = false)
    (ht : t = respond .done (writeEffect v r (setAgenda rest s))) :
    (s.cmdErr = false →
      (t.cmdErr = true ↔ ∃ r' v', wordWrite r v = wordWrite r' v' ∧ s.inReset = false ∧ refused r' v' s)) ∧
    (s.cmdErr = true →
      (t.cmdErr = false ↔ wordWrite r v = .assertReset ∨
        ∃ v', wordWrite r v = wordWrite .status v' ∧ s.inReset = false ∧ v'.getLsbD 2 = true)) ∧
    (∀ r' v', wordWrite r v = wordWrite r' v' → s.inReset = false → refused r' v' s →
      t = { s with agenda := rest, cmdErr := true, resp := .done }) := by
  have hcleared : (wordWrite r v = .assertReset ∨
      ∃ v', wordWrite r v = wordWrite .status v' ∧ s.inReset = false ∧ v'.getLsbD 2 = true) ↔
      r = .status ∧ v.getLsbD 2 = true := by
    constructor
    · rintro (h | ⟨v', h, -, hbit⟩)
      · cases h
      · obtain ⟨rfl, rfl⟩ := wordWrite_injective h
        exact ⟨rfl, hbit⟩
    · rintro ⟨rfl, hbit⟩
      exact .inr ⟨v, rfl, hrun, hbit⟩
  have hrefused : (∃ r' v', wordWrite r v = wordWrite r' v' ∧ s.inReset = false ∧ refused r' v' s) ↔ refused r v s := by
    constructor
    · rintro ⟨r', v', h, -, href⟩
      obtain ⟨rfl, rfl⟩ := wordWrite_injective h
      exact href
    · exact fun href => ⟨r, v, rfl, hrun, href⟩
  rw [hcleared, hrefused]
  obtain ⟨href, heff⟩ | ⟨href, heff⟩ := writeEffect_cmdErr v r (setAgenda rest s)
  · have hstatus : r ≠ .status := by
      rintro rfl
      exact not_refused (by decide) (by decide) v _ href
    rw [ht, heff]
    exact ⟨fun _ => ⟨fun _ => href, fun _ => rfl⟩, fun _ => ⟨(nomatch ·), fun h => absurd h.1 hstatus⟩, fun _ _ _ _ _ => rfl⟩
  · have herr : t.cmdErr = (s.cmdErr && !(decide (r = .status) && v.getLsbD 2)) := by rw [ht]; exact heff
    refine ⟨fun hclear => ?_, fun hset => ?_, fun r' v' h _ href' => ?_⟩
    · simp only [herr, hclear, Bool.false_and, Bool.false_eq_true, false_iff]
      exact href
    · simp [herr, hset]
    · obtain ⟨rfl, rfl⟩ := wordWrite_injective h
      exact absurd href' href

/-! The statements. -/

/-- Settles O42: both operations end the transmission in the same way. -/
theorem txErrorEndsOperation : Obligations.TxErrorEndsOperation := by
  intro s rest hagenda hrun htx hop
  rw [step_of_agenda hagenda]
  refine (txTurn_of_xmit (s := setAgenda rest s) .error htx hrun).trans (congrArg Host.Outcome.next ?_)
  obtain hop | hop := hop
  · exact endTransmit_xmit (s := setAgenda rest s) hop .txErr
  · exact endTransmit_send_txErr (s := setAgenda rest s) hop

/-- Settles O43: the first branch of `classifyAs`. -/
theorem matchingAckCompletesSend : Obligations.MatchingAckCompletesSend := fun _ hlen htarget =>
  congrArg Host.Outcome.next (classifyAs_ack ⟨hlen, htarget⟩)

/-- Settles O44: the second branch of `classifyAs`. -/
theorem matchingNackFailsAttempt : Obligations.MatchingNackFailsAttempt := fun s hlen htarget =>
  congrArg Host.Outcome.next ((classifyAs_nack ⟨hlen, htarget⟩).trans (attemptFailed_eq_afterFailure .nack s))

/-- Settles O45: the last branch of `classifyAs`, within the bound and past it. -/
theorem otherFrameIsCounted : Obligations.OtherFrameIsCounted := by
  intro ident s hack hnack hcount
  have hother : exec (.frameOtherId ident) s = .next (irrelevant s) :=
    congrArg Host.Outcome.next (classifyAs_of_not_acknowledgement fun h => h.1.elim hack hnack)
  rw [hother]
  refine ⟨fun hle => ?_, fun hlt => ?_⟩
  · rw [irrelevant_within hcount hle]
    rfl
  · rw [irrelevant_beyond hcount hlt, attemptFailed_eq_afterFailure]
    rfl

/-- Settles O46: without a matching target every identifier takes the last branch of `classifyAs`. -/
theorem staleAcknowledgementOnlyCounts : Obligations.StaleAcknowledgementOnlyCounts := by
  intro ident s _ _ hstale
  have stale : ∀ i, classifyAs i s = irrelevant s := fun i => classifyAs_of_not_acknowledgement fun h => hstale h.2
  exact ⟨congrArg Host.Outcome.next ((stale _).trans (stale ident).symm),
    congrArg Host.Outcome.next ((stale _).trans (stale ident).symm)⟩

/-- Settles O47: either event ends the reception in any running state, with the code of its own. -/
theorem streamErrorEndsReceive : Obligations.StreamErrorEndsReceive := by
  intro s e c q rest hec hagenda hq hrun hrx
  have hstep : step s = .next (endReceive c (setRxQ q (setAgenda rest s))) := by
    rw [step_rx hagenda hq hrx hrun]
    obtain ⟨rfl, rfl⟩ | ⟨rfl, rfl⟩ := hec
    · exact takeEvent_eos hrx
    · exact takeEvent_rxErr hrx
  have hc : c ≠ .ok := by rcases hec with ⟨-, rfl⟩ | ⟨-, rfl⟩ <;> decide
  rw [hstep]
  refine ⟨fun hop => ?_, fun hop => ?_⟩
  · exact congrArg Host.Outcome.next (endReceive_recv (s := setRxQ q (setAgenda rest s)) hop c)
  · exact congrArg Host.Outcome.next ((endReceive_send_of_ne_ok (s := setRxQ q (setAgenda rest s)) hop hc).trans
      (attemptFailed_eq_afterFailure c _))

/-- Settles O26: of all turns only reset and a write outside it change CMD_ERR, the write as `writeEffect_cmdErr` says. -/
theorem cmdErrChangesExactly : Obligations.CmdErrChangesExactly := by
  intro s t turn rest hagenda hstep
  rw [step_of_agenda hagenda] at hstep
  have hturn := takeTurn_cmdErr hstep
  simp only [setAgenda_inReset, setAgenda_cmdErr] at hturn
  obtain ⟨rfl, ht⟩ | ⟨r, v, rfl, hrun, rfl⟩ | ⟨⟨hreset, hwrite⟩, ht⟩ := hturn
  · refine ⟨fun _ => ?_, fun _ => ⟨fun _ => .inl rfl, fun _ => ht⟩, fun _ _ h => nomatch h⟩
    exact ⟨fun h => absurd (h.symm.trans ht) (by decide), fun ⟨_, _, h, _⟩ => nomatch h⟩
  · exact cmdErr_of_write hrun rfl
  · have hno : ∀ r v, turn = wordWrite r v → s.inReset = false → False := fun r v h hrun =>
      absurd ((hwrite r v h).symm.trans hrun) (by decide)
    rw [ht]
    refine ⟨fun hclear => ?_, fun hset => ?_, fun r v h hrun => (hno r v h hrun).elim⟩
    · exact ⟨fun h => absurd (h.symm.trans hclear) (by decide), fun ⟨r, v, h, hrun, _⟩ => (hno r v h hrun).elim⟩
    · exact ⟨fun h => absurd (h.symm.trans hset) (by decide),
        fun h => h.elim (absurd · hreset) fun ⟨v, h, hrun, _⟩ => (hno .status v h hrun).elim⟩

end Sys2Proof.Claims
end

section
/-! PROOFS of the family 'other', the receiver (42_decoder.md): what a sequence of bytes does to it. RXSRC's turns for the bytes
are `takeBytes` of them (O10), so a run of turns is a run of the receiver: a header leads into the body, the body's bytes are
stored one after another, and the last of them brings the verdict. -/

open Sys2Proof.Machine

namespace Sys2Proof.Claims

/-! Runs of several steps. -/

theorem runSteps_add {m n : Nat} {s t : State} (h : runSteps m s = .next t) : runSteps (m + n) s = runSteps n t := by
  induction m generalizing s with
  | zero => cases h; rw [Nat.zero_add]
  | succ m ih =>
    rw [Nat.succ_add]
    cases hs : step s with
    | next u =>
      simp only [runSteps, hs] at h ⊢
      exact ih h
    | fault r => simp [runSteps, hs] at h
    | refused r => simp [runSteps, hs] at h

/-! The agenda and RXSRC's queue have no part in what the receiver does. -/

/-- A state with other turns and events to come. -/
def onPorts (a : List Turn) (q : List RxEvent) (s : State) : State := setRxQ q (setAgenda a s)

/-- A next state changed by `f`; a fault or a refusal stays. -/
def mapNext (f : State → State) : Outcome State → Outcome State
  | .next s => .next (f s)
  | .fault r => .fault r
  | .refused r => .refused r

theorem attemptFailed_onPorts (c : Code) (a : List Turn) (q : List RxEvent) (s : State) :
    attemptFailed c (onPorts a q s) = onPorts a q (attemptFailed c s) := by
  obtain ⟨h, heq⟩ | ⟨h, heq⟩ := attemptFailed_cases c s
  · rw [heq]
    exact if_pos h
  · rw [heq]
    exact if_neg h

theorem irrelevant_onPorts (a : List Turn) (q : List RxEvent) (s : State) :
    irrelevant (onPorts a q s) = onPorts a q (irrelevant s) := by
  obtain ⟨h, heq⟩ | ⟨h, heq⟩ := irrelevant_cases s
  · rw [heq, ← attemptFailed_onPorts]
    exact if_pos h
  · rw [heq]
    exact if_neg h

theorem classifyAs_onPorts (i : Byte) (a : List Turn) (q : List RxEvent) (s : State) :
    classifyAs i (onPorts a q s) = onPorts a q (classifyAs i s) := by
  obtain ⟨⟨rfl, h⟩, heq⟩ | ⟨⟨rfl, h⟩, heq⟩ | ⟨h, heq⟩ := classifyAs_cases i s
  · rw [heq]
    exact classifyAs_ack (s := onPorts a q s) h
  · rw [heq, ← attemptFailed_onPorts]
    exact classifyAs_nack (s := onPorts a q s) h
  · rw [heq, ← irrelevant_onPorts]
    exact classifyAs_of_not_acknowledgement (s := onPorts a q s) h

theorem endReceive_onPorts (r : Code) (a : List Turn) (q : List RxEvent) (s : State) :
    endReceive r (onPorts a q s) = onPorts a q (endReceive r s) := by
  obtain ⟨hop, heq⟩ | ⟨⟨hop, rfl⟩, heq⟩ | ⟨⟨hop, hr⟩, heq⟩ | ⟨hop, heq⟩ := endReceive_cases r s
  · rw [heq]
    exact endReceive_recv (s := onPorts a q s) hop r
  · rw [heq, ← classifyAs_onPorts]
    exact endReceive_send_ok (s := onPorts a q s) hop
  · rw [heq, ← attemptFailed_onPorts]
    exact endReceive_send_of_ne_ok (s := onPorts a q s) hop hr
  · rw [heq, endReceive]
    rcases hop with hop | hop
    all_goals
      rw [show (onPorts a q s).op = _ from hop]
      rfl

theorem takeBodyByte_onPorts (b : Byte) (a : List Turn) (q : List RxEvent) (s : State) :
    takeBodyByte b (onPorts a q s) = mapNext (onPorts a q) (takeBodyByte b s) := by
  obtain ⟨⟨h, hlast⟩, heq⟩ | ⟨⟨h, hlast⟩, heq⟩ | ⟨h, heq⟩ := takeBodyByte_cases b s
  · rw [heq, mapNext, ← endReceive_onPorts]
    exact (if_pos h).trans ((if_pos hlast).trans (congrArg Host.Outcome.next (checkFrame_eq _)))
  · rw [heq]
    exact (if_pos h).trans (if_neg hlast)
  · rw [heq]
    exact if_neg h

/-! The receiver, state by state (42_decoder.md R192 to R197). -/

theorem takeEvent_idle {s : State} (h : s.rxst = .idle) (e : RxEvent) : takeEvent e s = .next s := by
  cases e <;> simp [takeEvent, h]

theorem takeEvent_seek1 {s : State} (h : s.rxst = .seek1) (b : Byte) :
    takeEvent (.byte b) s = .next (setRxst (if b = Config.preamble1 then .seek2 else .seek1) s) := by
  simp [takeEvent, h]

theorem takeEvent_seek2 {s : State} (h : s.rxst = .seek2) (b : Byte) :
    takeEvent (.byte b) s =
      .next (setRxst (if b = Config.preamble2 then .lenH else if b = Config.preamble1 then .seek2 else .seek1) s) := by
  simp [takeEvent, h]

theorem takeEvent_lenH {s : State} (h : s.rxst = .lenH) (b : Byte) :
    takeEvent (.byte b) s = .next (takeLengthHigh b s) := by
  simp [takeEvent, h]

theorem takeEvent_lenL {s : State} (h : s.rxst = .lenL) (b : Byte) : takeEvent (.byte b) s = .next (takeLengthLow b s) := by
  simp [takeEvent, h]

theorem takeEvent_body {s : State} (h : s.rxst = .body) (b : Byte) : takeEvent (.byte b) s = takeBodyByte b s := by
  simp [takeEvent, h]

theorem takeEvent_onPorts (e : RxEvent) (a : List Turn) (q : List RxEvent) (s : State) :
    takeEvent e (onPorts a q s) = mapNext (onPorts a q) (takeEvent e s) := by
  by_cases hidle : s.rxst = .idle
  · rw [takeEvent_idle hidle, takeEvent_idle (s := onPorts a q s) hidle]
    rfl
  cases e with
  | eos =>
    rw [takeEvent_eos hidle, takeEvent_eos (s := onPorts a q s) hidle, endReceive_onPorts]
    rfl
  | rxErr =>
    rw [takeEvent_rxErr hidle, takeEvent_rxErr (s := onPorts a q s) hidle, endReceive_onPorts]
    rfl
  | byte b =>
    cases h : s.rxst with
    | idle => exact absurd h hidle
    | seek1 => rw [takeEvent_seek1 h, takeEvent_seek1 (s := onPorts a q s) h]; rfl
    | seek2 => rw [takeEvent_seek2 h, takeEvent_seek2 (s := onPorts a q s) h]; rfl
    | lenH => rw [takeEvent_lenH h, takeEvent_lenH (s := onPorts a q s) h]; rfl
    | lenL => rw [takeEvent_lenL h, takeEvent_lenL (s := onPorts a q s) h]; rfl
    | body => rw [takeEvent_body h, takeEvent_body (s := onPorts a q s) h, takeBodyByte_onPorts]

/-! RXSRC's turns for a sequence of bytes offer these bytes. -/

theorem takeBytes_cons_of_next {b : Byte} {bs : List Byte} {s t : State} (h : s.takesRx = true)
    (ht : takeEvent (.byte b) s = .next t) : takeBytes (b :: bs) s = takeBytes bs t := by
  simp only [takeBytes, h, ht]
  rfl

theorem runSteps_rx_of_not_takesRx {n : Nat} {s : State} {a : List Turn} (h : s.takesRx = false)
    (hagenda : s.agenda = List.replicate n .rx ++ a) : runSteps n s = .next (setAgenda a s) := by
  induction n generalizing s with
  | zero => cases hagenda; rfl
  | succ n ih =>
    rw [List.replicate_succ, List.cons_append] at hagenda
    have hstep : step s = .next (setAgenda (List.replicate n .rx ++ a) s) :=
      (step_of_agenda hagenda).trans (rxTurn_of_not_takesRx h)
    simp only [runSteps, hstep]
    exact ih h rfl

/-- The turns for the bytes first in RXSRC's queue are the bytes offered one after another (30_encoding.md R104). -/
theorem runSteps_rx {bs : List Byte} {s : State} {a : List Turn} {q : List RxEvent}
    (hagenda : s.agenda = List.replicate bs.length .rx ++ a) (hq : s.rxQ = events bs ++ q) :
    runSteps bs.length s = takeBytes bs (onPorts a q s) := by
  induction bs generalizing s with
  | nil => cases hagenda; cases hq; rfl
  | cons b bs ih =>
    cases hrx : s.takesRx with
    | false =>
      rw [runSteps_rx_of_not_takesRx hrx hagenda, takeBytes_of_not_takesRx (s := onPorts a q s) hrx]
      exact congrArg (fun q' => Host.Outcome.next (onPorts a q' s)) hq
    | true =>
      rw [List.length_cons, List.replicate_succ, List.cons_append] at hagenda
      have hstep : step s = mapNext (onPorts (List.replicate bs.length .rx ++ a) (events bs ++ q)) (takeEvent (.byte b) s) := by
        rw [step_of_agenda hagenda, ← takeEvent_onPorts]
        exact rxTurn_of_takesRx (s := setAgenda _ s) hrx hq
      have hevent := takeEvent_onPorts (.byte b) a q s
      cases ht : takeEvent (.byte b) s with
      | next t =>
        rw [ht] at hstep hevent
        rw [takeBytes_cons_of_next (s := onPorts a q s) hrx hevent, List.length_cons, runSteps, hstep]
        exact ih rfl rfl
      | fault r =>
        rw [ht] at hstep hevent
        have htakes : (onPorts a q s).takesRx = true := hrx
        simp only [List.length_cons, runSteps, hstep, takeBytes, htakes, hevent, mapNext, if_true]
      | refused r =>
        rw [ht] at hstep hevent
        have htakes : (onPorts a q s).takesRx = true := hrx
        simp only [List.length_cons, runSteps, hstep, takeBytes, htakes, hevent, mapNext, if_true]

/-- Bytes that leave the receiver running have all been taken. -/
theorem takeBytes_append {as bs : List Byte} {s t : State} (h : takeBytes as s = .next t) (ht : t.takesRx = true) :
    takeBytes (as ++ bs) s = takeBytes bs t := by
  induction as generalizing s with
  | nil => cases h; rfl
  | cons a as ih =>
    obtain ⟨hrx, u, hu, heq⟩ | ⟨-, r, -, heq⟩ | ⟨-, r, -, heq⟩ | ⟨hrx, heq⟩ := takeBytes_cons a as s
    · rw [List.cons_append, takeBytes_cons_of_next hrx hu, ih (heq.symm.trans h)]
    · cases h.symm.trans heq
    · cases h.symm.trans heq
    · cases h.symm.trans heq
      exact absurd (ht.symm.trans hrx) (by decide)

/-! Bytes stored one after another. -/

/-- A memory with `bs` stored from index `a` on. -/
def storeBytes (m : Memory) (a : Nat) : List Byte → Memory
  | [] => m
  | b :: bs => storeBytes (memWrite m a b) (a + 1) bs

theorem memRead_storeBytes_of_outside {bs : List Byte} {m : Memory} {a i : Nat} (h : i < a ∨ a + bs.length ≤ i) :
    memRead (storeBytes m a bs) i = memRead m i := by
  induction bs generalizing m a with
  | nil => rfl
  | cons b bs ih =>
    rw [List.length_cons] at h
    rw [storeBytes, ih (by omega), memRead_memWrite_other _ _ (by omega)]

theorem memRead_storeBytes {bs : List Byte} {m : Memory} {a j : Nat} (h : j < bs.length) :
    memRead (storeBytes m a bs) (a + j) = some bs[j] := by
  induction bs generalizing m a j with
  | nil => cases h
  | cons b bs ih =>
    cases j with
    | zero => rw [storeBytes, memRead_storeBytes_of_outside (by omega)]; exact memRead_memWrite_same m a b
    | succ j =>
      have hindex : a + (j + 1) = a + 1 + j := by omega
      rw [storeBytes, hindex]
      exact ih (Nat.lt_of_succ_lt_succ h)

theorem rxByte_storeBytes {s t : State} {bs : List Byte} {a j : Nat} (ht : t.rxBuf = storeBytes s.rxBuf a bs)
    (h : j < bs.length) : t.rxByte (a + j) = bs[j] := by
  rw [State.rxByte, ht, memRead_storeBytes h, Option.getD_some]

theorem rxByte_storeBytes_of_outside {s t : State} {bs : List Byte} {a i : Nat} (ht : t.rxBuf = storeBytes s.rxBuf a bs)
    (h : i < a ∨ a + bs.length ≤ i) : t.rxByte i = s.rxByte i := by
  rw [State.rxByte, ht, memRead_storeBytes_of_outside h, State.rxByte]

/-! The body (42_decoder.md R197). -/

/-- The receiver after it has stored the body bytes `bs`. -/
def bodyStored (bs : List Byte) (s : State) : State :=
  { s with
    rxBuf := storeBytes s.rxBuf s.rxPos.toNat bs
    rxXor := s.rxXor ^^^ xorBytes (bs.take (s.rxLen.toNat - s.rxPos.toNat))
    rxPos := s.rxPos + BitVec.ofNat 17 bs.length }

theorem bodyStored_nil (s : State) : bodyStored [] s = s := by
  simp [bodyStored, storeBytes, xorBytes]

theorem bodyStored_cons {b : Byte} {bs : List Byte} {s : State} (h : s.rxPos.toNat < Config.rxBufSize) :
    bodyStored (b :: bs) s = bodyStored bs (storeBodyByte b s) := by
  have hpos := toNat_rxPos_succ h
  have hxor : s.rxXor ^^^ xorBytes ((b :: bs).take (s.rxLen.toNat - s.rxPos.toNat)) =
      (storeBodyByte b s).rxXor ^^^ xorBytes (bs.take (s.rxLen.toNat - (s.rxPos.toNat + 1))) := by
    rw [storeBodyByte_rxXor]
    by_cases hlt : s.rxPos.toNat < s.rxLen.toNat
    · have hsub : s.rxLen.toNat - s.rxPos.toNat = s.rxLen.toNat - (s.rxPos.toNat + 1) + 1 := by omega
      rw [if_pos hlt, hsub, List.take_succ_cons, xorBytes, BitVec.xor_assoc]
    · have hsub : s.rxLen.toNat - s.rxPos.toNat = 0 := by omega
      have hsub' : s.rxLen.toNat - (s.rxPos.toNat + 1) = 0 := by omega
      rw [if_neg hlt, hsub, hsub', List.take_zero, List.take_zero]
  have hcount : s.rxPos + BitVec.ofNat 17 (bs.length + 1) = s.rxPos + 1 + BitVec.ofNat 17 bs.length := by
    rw [Nat.add_comm, BitVec.ofNat_add, ← BitVec.add_assoc]
    rfl
  simp only [bodyStored, hxor, List.length_cons, hcount, storeBytes, storeBodyByte_rxPos, storeBodyByte_rxBuf,
    storeBodyByte_rxLen, hpos]
  rfl

theorem takeBytes_body_of_lt {bs : List Byte} {s : State} (hst : s.rxst = .body) (hrun : s.inReset = false)
    (h : s.rxPos.toNat + bs.length < s.rxLen.toNat + 3) : takeBytes bs s = .next (bodyStored bs s) := by
  induction bs generalizing s with
  | nil => rw [bodyStored_nil]; rfl
  | cons b bs ih =>
    rw [List.length_cons] at h
    have hlen : s.rxLen.toNat < 65536 := s.rxLen.isLt
    have hpos : s.rxPos.toNat < Config.rxBufSize := by simp only [Config.rxBufSize]; omega
    have hstore : takeEvent (.byte b) s = .next (storeBodyByte b s) := by
      rw [takeEvent_body hst, takeBodyByte, if_pos hpos, if_neg (by omega)]
    rw [takeBytes_cons_of_next (takesRx_eq_true (by rw [hst]; decide) hrun) hstore, bodyStored_cons hpos]
    refine ih hst hrun ?_
    rw [storeBodyByte_rxPos, toNat_rxPos_succ hpos, storeBodyByte_rxLen]
    omega

/-- The last body byte brings the verdict (42_decoder.md R197, R200). -/
theorem takeBytes_body {bs : List Byte} {s : State} (hst : s.rxst = .body) (hrun : s.inReset = false) (hne : bs ≠ [])
    (h : s.rxPos.toNat + bs.length = s.rxLen.toNat + 3) :
    takeBytes bs s = .next (endReceive (bodyStored bs s).verdict (bodyStored bs s)) := by
  induction bs generalizing s with
  | nil => exact absurd rfl hne
  | cons b bs ih =>
    rw [List.length_cons] at h
    have hlen : s.rxLen.toNat < 65536 := s.rxLen.isLt
    have hpos : s.rxPos.toNat < Config.rxBufSize := by simp only [Config.rxBufSize]; omega
    have hrx : s.takesRx = true := takesRx_eq_true (by rw [hst]; decide) hrun
    rw [bodyStored_cons hpos]
    cases bs with
    | nil =>
      have hlast : takeEvent (.byte b) s = .next (checkFrame (storeBodyByte b s)) := by
        rw [takeEvent_body hst]
        exact (if_pos hpos).trans (if_pos h)
      rw [takeBytes_cons_of_next hrx hlast, bodyStored_nil, ← checkFrame_eq]
      rfl
    | cons b' bs =>
      rw [List.length_cons] at h
      have hstore : takeEvent (.byte b) s = .next (storeBodyByte b s) := by
        rw [takeEvent_body hst, takeBodyByte, if_pos hpos, if_neg (by omega)]
      rw [takeBytes_cons_of_next hrx hstore]
      refine ih hst hrun (by simp) ?_
      rw [storeBodyByte_rxPos, toNat_rxPos_succ hpos, storeBodyByte_rxLen, List.length_cons]
      omega

/-! The header (42_decoder.md R192 to R196). -/

/-- The receiver looks for a preamble. -/
def searching (s : State) : Prop := (s.rxst = .seek1 ∨ s.rxst = .seek2) ∧ s.inReset = false

theorem takesRx_of_searching {s : State} (h : searching s) : s.takesRx = true :=
  takesRx_eq_true (by rcases h.1 with h | h <;> rw [h] <;> decide) h.2

/-- The receiver at the start of the body of a frame of length `{h, l}`. -/
def bodyStart (h l : Byte) (s : State) : State := { s with rxLen := h ++ l, rxPos := 0, rxXor := 0, rxst := .body }

theorem takeEvent_preamble1 {s : State} (h : searching s) :
    takeEvent (.byte Config.preamble1) s = .next (setRxst .seek2 s) := by
  rcases h.1 with h | h
  · exact takeEvent_seek1 h _
  · exact takeEvent_seek2 h _

theorem takeBytes_header {h l : Byte} {bs : List Byte} {s : State} (hs : searching s) :
    takeBytes (Config.preamble1 :: Config.preamble2 :: h :: l :: bs) s = takeBytes bs (bodyStart h l s) := by
  have takes : ∀ t : State, t.rxst ≠ .idle → t.inReset = s.inReset → t.takesRx = true := fun t ht hr =>
    takesRx_eq_true ht (hr.trans hs.2)
  rw [takeBytes_cons_of_next (takesRx_of_searching hs) (takeEvent_preamble1 hs),
    takeBytes_cons_of_next (takes (setRxst .seek2 s) (nomatch ·) rfl) (takeEvent_seek2 rfl Config.preamble2), if_pos rfl,
    takeBytes_cons_of_next (takes (setRxst .lenH (setRxst .seek2 s)) (nomatch ·) rfl) (takeEvent_lenH rfl h),
    takeBytes_cons_of_next (takes (takeLengthHigh h (setRxst .lenH (setRxst .seek2 s))) (nomatch ·) rfl) (takeEvent_lenL rfl l)]
  simp only [takeLengthLow, takeLengthHigh, extractLsb'_append_high]
  rfl

/-! A whole frame-shaped sequence: preamble, length, body, checksum byte and two marker bytes. -/

/-- The receiver after the body `content ++ tail` of a frame of length `{h, l}`, before the verdict. -/
def bodyReceived (h l : Byte) (content tail : List Byte) (s : State) : State :=
  { s with
    rxst := .body
    rxLen := h ++ l
    rxPos := BitVec.ofNat 17 (content ++ tail).length
    rxXor := xorBytes content
    rxBuf := storeBytes s.rxBuf 0 (content ++ tail) }

theorem bodyStored_bodyStart {h l : Byte} {content tail : List Byte} {s : State}
    (hl : (h ++ l : BitVec 16).toNat = content.length) :
    bodyStored (content ++ tail) (bodyStart h l s) = bodyReceived h l content tail s := by
  have hsum : (0#8 ^^^ xorBytes ((content ++ tail).take ((h ++ l : BitVec 16).toNat - 0))) = xorBytes content := by
    rw [Nat.sub_zero, hl, List.take_left, BitVec.zero_xor]
  have hpos : 0#17 + BitVec.ofNat 17 (content ++ tail).length = BitVec.ofNat 17 (content ++ tail).length := BitVec.zero_add _
  calc bodyStored (content ++ tail) (bodyStart h l s)
      = { bodyReceived h l content tail s with
          rxXor := 0#8 ^^^ xorBytes ((content ++ tail).take ((h ++ l : BitVec 16).toNat - 0))
          rxPos := 0#17 + BitVec.ofNat 17 (content ++ tail).length } := rfl
    _ = bodyReceived h l content tail s := by rw [hsum, hpos]; rfl

/-- The verdict on a received body is the one of its bytes (42_decoder.md R200, R203). -/
theorem verdict_bodyReceived {h l c e1 e2 : Byte} {content : List Byte} {s : State}
    (hl : (h ++ l : BitVec 16).toNat = content.length) :
    (bodyReceived h l content [c, e1, e2] s).verdict = bodyVerdict content c e1 e2 := by
  have hbyte : ∀ j (hj : j < (content ++ [c, e1, e2]).length),
      (bodyReceived h l content [c, e1, e2] s).rxByte j = (content ++ [c, e1, e2])[j] := fun j hj => by
    rw [← rxByte_storeBytes (s := s) (t := bodyReceived h l content [c, e1, e2] s) (a := 0) rfl hj, Nat.zero_add]
  have hlen : (bodyReceived h l content [c, e1, e2] s).rxLen.toNat = content.length := hl
  have hempty : content.length = 0 ↔ content = [] := List.length_eq_zero_iff
  rw [State.verdict, hlen, hbyte _ (by simp), hbyte _ (by simp), hbyte _ (by simp)]
  simp only [List.getElem_append_right (Nat.le_refl _), List.getElem_append_right (Nat.le_add_right _ _), Nat.sub_self,
    Nat.add_sub_cancel_left, hempty]
  rfl

theorem takeBytes_framed {h l c e1 e2 : Byte} {content : List Byte} {s : State} (hs : searching s)
    (hl : (h ++ l : BitVec 16).toNat = content.length) :
    takeBytes (Config.preamble1 :: Config.preamble2 :: h :: l :: (content ++ [c, e1, e2])) s =
      .next (endReceive (bodyVerdict content c e1 e2) (bodyReceived h l content [c, e1, e2] s)) := by
  have hlength : (bodyStart h l s).rxPos.toNat + (content ++ [c, e1, e2]).length = (bodyStart h l s).rxLen.toNat + 3 := by
    have hpos : (bodyStart h l s).rxPos.toNat = 0 := rfl
    have hlen : (bodyStart h l s).rxLen.toNat = content.length := hl
    rw [hpos, hlen, List.length_append, Nat.zero_add]
    rfl
  rw [takeBytes_header hs, takeBytes_body (s := bodyStart h l s) rfl hs.2 (by simp) hlength, bodyStored_bodyStart hl,
    verdict_bodyReceived hl]

/-- The bytes RX_BUF holds then. -/
theorem rxByte_bodyReceived {h l : Byte} {content tail : List Byte} {s t : State}
    (ht : t.rxBuf = (bodyReceived h l content tail s).rxBuf) :
    (∀ j (hj : j < (content ++ tail).length), t.rxByte j = (content ++ tail)[j]) ∧
    ∀ j, (content ++ tail).length ≤ j → t.rxByte j = s.rxByte j := by
  refine ⟨fun j hj => ?_, fun j hj => rxByte_storeBytes_of_outside ht (.inr (by rwa [Nat.zero_add]))⟩
  rw [← rxByte_storeBytes (s := s) (t := t) (a := 0) ht hj, Nat.zero_add]

/-! An encoded frame. -/

/-- The receiver after an encoded frame, before its end. -/
def frameReceived (ident : Byte) (payload : List Byte) (s : State) : State :=
  { s with
    rxst := .body
    rxLen := BitVec.ofNat 16 (payload.length + 1)
    rxPos := BitVec.ofNat 17 (payload.length + 4)
    rxXor := xorBytes (ident :: payload)
    rxBuf := storeBytes s.rxBuf 0 (ident :: payload ++ [xorBytes (ident :: payload), Config.marker1, Config.marker2]) }

theorem bodyReceived_frame {h l ident : Byte} {payload : List Byte} {s : State}
    (hl : (h ++ l : BitVec 16).toNat = payload.length + 1) :
    bodyReceived h l (ident :: payload) [xorBytes (ident :: payload), Config.marker1, Config.marker2] s =
      frameReceived ident payload s := by
  have hlen : h ++ l = BitVec.ofNat 16 (payload.length + 1) := by rw [← hl, BitVec.ofNat_toNat, BitVec.setWidth_eq]
  have hcount : (ident :: payload ++ [xorBytes (ident :: payload), Config.marker1, Config.marker2]).length =
      payload.length + 4 := by simp
  rw [bodyReceived, hlen, hcount]
  rfl

theorem takeBytes_frame {ident : Byte} {payload : List Byte} {s : State} (hp : payload.length ≤ maxPayload)
    (hs : searching s) : takeBytes (frameBytes ident payload) s = .next (endReceive .ok (frameReceived ident payload s)) := by
  obtain ⟨h, l, hl⟩ := exists_lengthBytes hp
  have hok : bodyVerdict (ident :: payload) (xorBytes (ident :: payload)) Config.marker1 Config.marker2 = .ok := by
    simp [bodyVerdict, Config.marker1, Config.marker2]
  rw [frameBytes_eq hl, takeBytes_framed hs hl, hok, bodyReceived_frame hl]

theorem toNat_frameLength {payload : List Byte} (hp : payload.length ≤ maxPayload) :
    (BitVec.ofNat 16 (payload.length + 1)).toNat = payload.length + 1 := by
  simp only [maxPayload] at hp
  rw [BitVec.toNat_ofNat]
  omega

/-- The body is in RX_BUF then, and nothing else has changed there. -/
theorem rxByte_frameReceived_body {ident : Byte} {payload : List Byte} {s t : State}
    (ht : t.rxBuf = (frameReceived ident payload s).rxBuf) :
    (∀ j (hj : j < (ident :: payload ++ [xorBytes (ident :: payload), Config.marker1, Config.marker2]).length),
      t.rxByte j = (ident :: payload ++ [xorBytes (ident :: payload), Config.marker1, Config.marker2])[j]) ∧
    ∀ j, payload.length + 3 < j → t.rxByte j = s.rxByte j := by
  refine ⟨fun j hj => ?_, fun j hj => rxByte_storeBytes_of_outside (s := s) ht (.inr ?_)⟩
  · rw [← rxByte_storeBytes (s := s) (t := t) (a := 0) ht hj, Nat.zero_add]
  · simp only [List.length_append, List.length_cons, List.length_nil]
    omega

/-- Identifier and payload are in RX_BUF then. -/
theorem rxByte_frameReceived {ident : Byte} {payload : List Byte} {s t : State}
    (ht : t.rxBuf = (frameReceived ident payload s).rxBuf) (j : Nat) (hj : j < (ident :: payload).length) :
    t.rxByte j = (ident :: payload)[j] := by
  rw [(rxByte_frameReceived_body ht).1 j (by rw [List.length_append]; omega), List.getElem_append_left hj]

/-! Garbage before a preamble (42_decoder.md R206). -/

theorem noPreamble_of_cons {b : Byte} {bs : List Byte} (h : noPreamble (b :: bs) = true) : noPreamble bs = true := by
  cases bs with
  | nil => rfl
  | cons c bs =>
    rw [noPreamble, Bool.and_eq_true] at h
    exact h.2

theorem ne_preamble2_of_noPreamble {b : Byte} {bs : List Byte} (h : noPreamble (Config.preamble1 :: b :: bs) = true) :
    b ≠ Config.preamble2 := by
  rintro rfl
  simp [noPreamble, Config.preamble1, Config.preamble2] at h

/-- Garbage leaves the receiver searching, in SEEK2 exactly where it ends in the first preamble byte. -/
theorem takeBytes_garbage {bs : List Byte} {s : State} (hs : searching s)
    (h : (s.rxst = .seek1 ∧ noPreamble bs = true) ∨ (s.rxst = .seek2 ∧ noPreamble (Config.preamble1 :: bs) = true)) :
    ∃ x, takeBytes bs s = .next (setRxst x s) ∧ searching (setRxst x s) := by
  induction bs generalizing s with
  | nil => exact ⟨s.rxst, rfl, hs⟩
  | cons b bs ih =>
    have hrx := takesRx_of_searching hs
    by_cases hb : b = Config.preamble1
    · subst hb
      have hpre : noPreamble (Config.preamble1 :: bs) = true := h.elim (·.2) fun h => noPreamble_of_cons h.2
      obtain ⟨x, hx, hsx⟩ := ih (s := setRxst .seek2 s) ⟨.inr rfl, hs.2⟩ (.inr ⟨rfl, hpre⟩)
      exact ⟨x, (takeBytes_cons_of_next hrx (takeEvent_preamble1 hs)).trans hx, hsx⟩
    · have hevent : takeEvent (.byte b) s = .next (setRxst .seek1 s) := by
        obtain ⟨hst, -⟩ | ⟨hst, hpre⟩ := h
        · rw [takeEvent_seek1 hst, if_neg hb]
        · rw [takeEvent_seek2 hst, if_neg (ne_preamble2_of_noPreamble hpre), if_neg hb]
      have hpre : noPreamble bs = true :=
        h.elim (fun h => noPreamble_of_cons h.2) fun h => noPreamble_of_cons (noPreamble_of_cons h.2)
      obtain ⟨x, hx, hsx⟩ := ih (s := setRxst .seek1 s) ⟨.inl rfl, hs.2⟩ (.inl ⟨rfl, hpre⟩)
      exact ⟨x, (takeBytes_cons_of_next hrx hevent).trans hx, hsx⟩

/-- A frame behind garbage is received as the frame alone is. -/
theorem takeBytes_garbage_frame {garbage : List Byte} {ident : Byte} {payload : List Byte} {s : State}
    (hg : noPreamble garbage = true) (hp : payload.length ≤ maxPayload) (hst : s.rxst = .seek1) (hrun : s.inReset = false) :
    takeBytes (garbage ++ frameBytes ident payload) s = .next (endReceive .ok (frameReceived ident payload s)) := by
  obtain ⟨x, hx, hs⟩ := takeBytes_garbage (bs := garbage) ⟨.inl hst, hrun⟩ (.inl ⟨hst, hg⟩)
  rw [takeBytes_append hx (takesRx_of_searching hs), takeBytes_frame hp hs]
  rfl

/-- A trailer byte is stored and counted only. -/
theorem storeBodyByte_of_le (b : Byte) {s : State} (h : s.rxLen.toNat ≤ s.rxPos.toNat) :
    storeBodyByte b s = { s with rxBuf := memWrite s.rxBuf s.rxPos.toNat b, rxPos := s.rxPos + 1 } := by
  rw [storeBodyByte, if_neg (Nat.not_lt.mpr h)]

theorem exec_decodeFrameId (b : Byte) (s : State) : exec (decodeFrameId b) s = .next (classifyAs b s) := by
  obtain ⟨rfl, h⟩ | ⟨rfl, h⟩ | ⟨-, h⟩ := decodeFrameId_cases b
  all_goals rw [h]; rfl

/-! The statements. -/

/-- Settles O9: the stored byte completes a body whose verdict is OK. -/
theorem stepClassifiesGoodFrame : Obligations.StepClassifiesGoodFrame := by
  intro s q rest hagenda hq hrun hst hop hlen hpos hmarker hsum
  have hne : s.rxst ≠ .idle := by rw [hst]; decide
  have hbound : s.rxLen.toNat < 65536 := s.rxLen.isLt
  have hlt : s.rxPos.toNat < Config.rxBufSize := by simp only [Config.rxBufSize]; omega
  have hbyte : ∀ i, i < s.rxPos.toNat → (storeBodyByte 0x0A#8 s).rxByte i = s.rxByte i := fun i hi => by
    rw [rxByte_storeBodyByte, if_neg (by omega)]
  have hstore := storeBodyByte_of_le 0x0A#8 (s := s) (by omega)
  have hverdict : (storeBodyByte 0x0A#8 s).verdict = .ok := by
    have hm1 : (storeBodyByte 0x0A#8 s).rxByte (s.rxLen.toNat + 1) = Config.marker1 := by rw [hbyte _ (by omega)]; exact hmarker
    have hm2 : (storeBodyByte 0x0A#8 s).rxByte (s.rxLen.toNat + 2) = Config.marker2 := by
      rw [rxByte_storeBodyByte, if_pos hpos.symm]
      rfl
    have hc : (storeBodyByte 0x0A#8 s).rxByte s.rxLen.toNat = (storeBodyByte 0x0A#8 s).rxXor := by
      rw [hbyte _ (by omega), hsum, hstore]
    simp [State.verdict, hm1, hm2, hc, Nat.one_le_iff_ne_zero.mp hlen]
  have hlast : takeBodyByte 0x0A#8 s = .next (classifyAs (s.rxByte 0) (stopPorts (storeBodyByte 0x0A#8 s))) := by
    rw [takeBodyByte, if_pos hlt, if_pos (by omega), checkFrame_eq, hverdict,
      endReceive_send_ok (s := storeBodyByte 0x0A#8 s) hop, hbyte 0 (by omega)]
  have hstep : step s = mapNext (onPorts rest q) (takeBodyByte 0x0A#8 s) := by
    rw [step_rx hagenda hq hne hrun, ← takeEvent_body hst, ← takeEvent_onPorts]
    rfl
  rw [hstep, hlast, exec_decodeFrameId, mapNext, ← classifyAs_onPorts, hstore]
  rfl

/-- Settles O10: the turns for the frame's bytes are `takeBytes` of them. -/
theorem frameIsItsHandshakes : Obligations.FrameIsItsHandshakes := by
  intro s ident payload q rest hagenda hq
  have hlen : (encode (.frame ident payload)).length = payload.length + 8 := Laws.EncodedSize.frame ident payload
  rw [← hlen] at hagenda ⊢
  exact runSteps_rx hagenda hq

/-- Settles O35: the frame is received with OK, which ends the RECV. -/
theorem frameCompletesRecv : Obligations.FrameCompletesRecv := by
  intro s ident payload hp hrun hop hst
  have htake : takeBytes (frameBytes ident payload) s =
      .next (complete .ok .none (stopPorts (frameReceived ident payload s))) := by
    rw [takeBytes_frame hp ⟨hst, hrun⟩, endReceive_recv (s := frameReceived ident payload s) hop]
  obtain ⟨hbody, hrest⟩ := rxByte_frameReceived_body (ident := ident) (payload := payload) (s := s)
    (t := complete .ok .none (stopPorts (frameReceived ident payload s))) rfl
  refine ⟨_, htake, rfl, rxByte_frameReceived (s := s) rfl, ?_, ?_, ?_, hrest⟩
  · rw [hbody _ (by simp)]
    simp
  · rw [hbody _ (by simp)]
    simp [Config.marker1]
  · rw [hbody _ (by simp)]
    simp [Config.marker2]

/-- Settles O37: the turns offer the bytes, which bring the verdict of the bytes. -/
theorem receiverReachesVerdict : Obligations.ReceiverReachesVerdict := by
  intro s h l content c e1 e2 q rest hrun hst hl hagenda hq
  have hturns : runSteps (content.length + 7) s =
      .next (endReceive (bodyVerdict content c e1 e2) (bodyReceived h l content [c, e1, e2] (onPorts rest q s))) := by
    have hlen : (0xA0#8 :: 0xA1#8 :: h :: l :: (content ++ [c, e1, e2])).length = content.length + 7 := by simp
    rw [← hlen] at hagenda ⊢
    rw [runSteps_rx (q := q) hagenda (by rw [hq]; simp)]
    exact takeBytes_framed (s := onPorts rest q s) ⟨.inl hst, hrun⟩ hl
  have hpos : (content ++ [c, e1, e2]).length = content.length + 3 := by simp
  obtain ⟨hbody, hrest⟩ := rxByte_bodyReceived (h := h) (l := l) (content := content) (tail := [c, e1, e2]) (s := s)
    (t := stopPorts (bodyReceived h l content [c, e1, e2] (onPorts rest q s))) rfl
  refine ⟨stopPorts (bodyReceived h l content [c, e1, e2] (onPorts rest q s)), ?_, hbody, ?_, fun hop => ?_,
    fun hop hbad => ?_, fun hop hok => ?_⟩
  · rw [bodyReceived, hpos]
    rfl
  · rwa [hpos] at hrest
  · rw [hturns, endReceive_recv (s := bodyReceived h l content [c, e1, e2] (onPorts rest q s)) hop]
    rfl
  · rw [hturns, endReceive_send_of_ne_ok (s := bodyReceived h l content [c, e1, e2] (onPorts rest q s)) hop hbad,
      attemptFailed_eq_afterFailure]
  · rw [hturns, hok, endReceive_send_ok (s := bodyReceived h l content [c, e1, e2] (onPorts rest q s)) hop,
      exec_decodeFrameId]
    rfl

/-- A RECV offered a frame behind garbage, turn by turn. -/
theorem runSteps_recv_frame {s : State} {garbage : List Byte} {ident : Byte} {payload : List Byte} {q : List RxEvent}
    {rest : List Turn} (hg : noPreamble garbage = true) (hp : payload.length ≤ maxPayload) (hrun : s.inReset = false)
    (hop : s.op = .recv) (hst : s.rxst = .seek1)
    (hagenda : s.agenda = List.replicate (garbage.length + (payload.length + 8)) Turn.rx ++ rest)
    (hq : s.rxQ = events (garbage ++ frameBytes ident payload) ++ q) :
    runSteps (garbage.length + (payload.length + 8)) s =
      .next (complete .ok .none (stopPorts (frameReceived ident payload (onPorts rest q s)))) := by
  have hframe : (frameBytes ident payload).length = payload.length + 8 := Laws.EncodedSize.frame ident payload
  rw [← hframe, ← List.length_append] at hagenda ⊢
  rw [runSteps_rx hagenda hq, takeBytes_garbage_frame (s := onPorts rest q s) hg hp hst hrun,
    endReceive_recv (s := frameReceived ident payload (onPorts rest q s)) hop]

/-- Settles O38: the garbage leaves the receiver searching, and the frame ends the RECV. -/
theorem receiverFindsFrameBehindGarbage : Obligations.ReceiverFindsFrameBehindGarbage := by
  intro s garbage ident payload q rest hg hp hrun hop hst hagenda hq
  exact ⟨_, runSteps_recv_frame hg hp hrun hop hst hagenda hq, rfl, rfl, rfl, rfl, rfl, toNat_frameLength hp,
    rxByte_frameReceived (s := onPorts rest q s) rfl⟩

/-- Flipping a bit changes the byte. -/
theorem xor_bit_ne (b : Byte) {k : Nat} (hk : k < 8) : b ^^^ (1#8 <<< k) ≠ b := by
  have hbit : ∀ k < 8, (1#8 <<< k) ≠ 0#8 := by decide
  intro h
  apply hbit k hk
  calc 1#8 <<< k = b ^^^ (b ^^^ 1#8 <<< k) := by rw [← BitVec.xor_assoc, BitVec.xor_self, BitVec.zero_xor]
    _ = 0#8 := by rw [h, BitVec.xor_self]

theorem modify_length_append {α : Type} (as bs : List α) (b : α) (f : α → α) :
    (as ++ b :: bs).modify as.length f = as ++ f b :: bs := by
  induction as with
  | nil => rfl
  | cons a as ih => simpa using ih

/-- Settles O39: with another checksum byte the same body has the verdict CHECKSUM. -/
theorem checksumBitFlipIsCaught : Obligations.ChecksumBitFlipIsCaught := by
  intro s ident payload k q rest hp hk hrun hop hst hagenda hq
  obtain ⟨h, l, hl⟩ := exists_lengthBytes hp
  have hflip : (encode (.frame ident payload)).modify (payload.length + 5) (· ^^^ (1#8 <<< k)) =
      Config.preamble1 :: Config.preamble2 :: h :: l :: (ident :: payload ++
        [xorBytes (ident :: payload) ^^^ (1#8 <<< k), Config.marker1, Config.marker2]) := by
    have hindex : payload.length + 5 =
        (Config.preamble1 :: Config.preamble2 :: h :: l :: ident :: payload).length := by simp
    rw [encode, frameBytes_eq hl, hindex]
    exact modify_length_append (Config.preamble1 :: Config.preamble2 :: h :: l :: ident :: payload) _ _ _
  have hverdict : bodyVerdict (ident :: payload) (xorBytes (ident :: payload) ^^^ (1#8 <<< k)) Config.marker1
      Config.marker2 = .checksum := by
    simp [bodyVerdict, Config.marker1, Config.marker2, xor_bit_ne _ hk]
  rw [hflip] at hq
  have hlen : (Config.preamble1 :: Config.preamble2 :: h :: l :: (ident :: payload ++
        [xorBytes (ident :: payload) ^^^ (1#8 <<< k), Config.marker1, Config.marker2])).length = payload.length + 8 := by
    simp
  rw [← hlen] at hagenda ⊢
  rw [runSteps_rx hagenda hq, takeBytes_framed (s := onPorts rest q s) ⟨.inl hst, hrun⟩ hl, hverdict,
    endReceive_recv (s := bodyReceived _ _ _ _ (onPorts rest q s)) hop]
  exact ⟨_, rfl, rfl, rfl, rfl⟩

end Sys2Proof.Claims
end

section
/-! PROOFS of the family 'other', the encoder (41_encoder.md): with every byte accepted the frame in TX_BUF goes out byte for
byte, and a RECV of what went out gives it back; and LOADTX (30_encoding.md R117), which puts a frame there. -/

open Sys2Proof.Machine

namespace Sys2Proof.Claims

/-! Bytes accepted one after another (41_encoder.md R172, R173). -/

theorem txFrameByte_congr {s t : State} (hb : t.txBuf = s.txBuf) (he : t.txEpoch = s.txEpoch) (hl : t.txLen = s.txLen)
    (hd : t.draws = s.draws) (p : Nat) : t.txFrameByte p = s.txFrameByte p := by
  simp only [State.txFrameByte, hl, hd, txByte_congr hb he, txXorTo_of_txBuf hb he]

/-- The encoder after it has sent the first `k` bytes of the frame in TX_BUF. -/
def transmitted (k : Nat) (s : State) : State :=
  { s with
    sent := s.sent ++ (List.range k).map s.txFrameByte
    txPos := BitVec.ofNat 17 k
    txXor := s.txXorTo (min (k - 4) s.txLen.toNat) }

theorem transmitted_zero {s : State} (hp : s.txPos = 0) (hx : s.txXor = 0) : transmitted 0 s = s := by
  have hsum : s.txXorTo (min (0 - 4) s.txLen.toNat) = s.txXor := by rw [Nat.zero_sub, Nat.zero_min, hx]; rfl
  rw [transmitted, hsum, List.range_zero, List.map_nil, List.append_nil, ← show s.txPos = BitVec.ofNat 17 0 from hp]

theorem transmitted_setAgenda (k : Nat) (a : List Turn) (s : State) :
    transmitted k (setAgenda a s) = setAgenda a (transmitted k s) := by
  have hbytes : (setAgenda a s).txFrameByte = s.txFrameByte := funext (txFrameByte_congr (by rfl) (by rfl) (by rfl) (by rfl))
  rw [transmitted, hbytes, txXorTo_of_txBuf (s := s) (t := setAgenda a s) rfl rfl]
  rfl

theorem toNat_txPos_transmitted {k : Nat} {s : State} (h : k ≤ s.txLen.toNat + 6) : (transmitted k s).txPos.toNat = k := by
  have hlen : s.txLen.toNat < 65536 := s.txLen.isLt
  rw [transmitted, BitVec.toNat_ofNat]
  omega

theorem advanceTx_transmitted {k : Nat} {s : State} (h : k ≤ s.txLen.toNat + 6) :
    advanceTx (transmitted k s) = transmitted (k + 1) s := by
  have hpos := toNat_txPos_transmitted h
  have hbyte : (transmitted k s).txFrameByte (transmitted k s).txPos.toNat = s.txFrameByte k := by
    rw [hpos]
    exact txFrameByte_congr (by rfl) (by rfl) (by rfl) (by rfl) k
  have hsum : (advanceTx (transmitted k s)).txXor = s.txXorTo (min (k + 1 - 4) s.txLen.toNat) := by
    rw [txXor_advanceTx hpos (txXorTo_of_txBuf (by rfl) (by rfl) _).symm]
    exact txXorTo_of_txBuf (by rfl) (by rfl) _
  have hcount : BitVec.ofNat 17 k + 1 = BitVec.ofNat 17 (k + 1) := (BitVec.ofNat_add k 1).symm
  calc advanceTx (transmitted k s)
      = { s with
          sent := s.sent ++ (List.range k).map s.txFrameByte ++ [(transmitted k s).txFrameByte (transmitted k s).txPos.toNat]
          txPos := BitVec.ofNat 17 k + 1
          txXor := (advanceTx (transmitted k s)).txXor } := rfl
    _ = transmitted (k + 1) s := by
        rw [hbyte, hsum, hcount, transmitted, List.range_succ, List.map_append, List.append_assoc]
        rfl

theorem step_txAccept {s : State} {rest : List Turn} (hrun : s.inReset = false) (htx : s.sqst = .xmit) :
    step (setAgenda (.tx .accept :: rest) s) = .next (txAccept (setAgenda rest s)) := by
  rw [step_of_agenda (turn := .tx .accept) rfl]
  exact txTurn_of_xmit (s := setAgenda rest s) .accept htx hrun

/-- An accepted byte before the last moves the encoder on by one. -/
theorem step_txAccept_of_lt {k : Nat} {s : State} {rest : List Turn} (hrun : s.inReset = false) (htx : s.sqst = .xmit)
    (h : k < s.txLen.toNat + 6) :
    step (setAgenda (.tx .accept :: rest) (transmitted k s)) = .next (setAgenda rest (transmitted (k + 1) s)) := by
  have hpos : (transmitted k (setAgenda rest s)).txPos.toNat ≠ (transmitted k (setAgenda rest s)).txLen.toNat + 6 := by
    rw [toNat_txPos_transmitted (s := setAgenda rest s) (Nat.le_of_lt h)]
    exact Nat.ne_of_lt h
  rw [step_txAccept (s := transmitted k s) hrun htx, ← transmitted_setAgenda, txAccept, if_neg hpos,
    advanceTx_transmitted (s := setAgenda rest s) (Nat.le_of_lt h), transmitted_setAgenda]

theorem runSteps_transmitted {j k : Nat} {s : State} {rest : List Turn} (hrun : s.inReset = false) (htx : s.sqst = .xmit)
    (h : j + k ≤ s.txLen.toNat + 6) :
    runSteps k (setAgenda (List.replicate k (.tx .accept) ++ rest) (transmitted j s)) =
      .next (setAgenda rest (transmitted (j + k) s)) := by
  induction k generalizing j with
  | zero => rfl
  | succ k ih =>
    rw [List.replicate_succ, List.cons_append, runSteps, step_txAccept_of_lt hrun htx (by omega), Nat.add_comm k 1,
      ← Nat.add_assoc]
    exact ih (by omega)

/-- The encoder after the whole frame, before its end. -/
def frameSent (s : State) : State :=
  { s with
    sent := s.sent ++ txFrame s
    txPos := BitVec.ofNat 17 (s.txLen.toNat + 7)
    txXor := s.txXorTo s.txLen.toNat }

theorem transmitted_all {s : State} (h : 1 ≤ s.txLen.toNat) : transmitted (s.txLen.toNat + 7) s = frameSent s := by
  have hmin : min (s.txLen.toNat + 7 - 4) s.txLen.toNat = s.txLen.toNat := by omega
  rw [transmitted, frameSent, hmin, txFrame_eq_map_txFrameByte h]

/-- With every byte accepted the whole frame goes out, and the transmission ends with OK (41_encoder.md R173, R176). -/
theorem runSteps_transmit {s : State} {rest : List Turn} (hrun : s.inReset = false) (htx : s.sqst = .xmit)
    (hp : s.txPos = 0) (hx : s.txXor = 0) (hl : 1 ≤ s.txLen.toNat)
    (hagenda : s.agenda = List.replicate (s.txLen.toNat + 7) (.tx .accept) ++ rest) :
    runSteps (s.txLen.toNat + 7) s = .next (endTransmit .ok (setAgenda rest (frameSent s))) := by
  have hstart : s = setAgenda (List.replicate (s.txLen.toNat + 6) (.tx .accept) ++ (.tx .accept :: rest)) (transmitted 0 s) := by
    rw [transmitted_zero hp hx, List.append_cons, ← List.replicate_succ', ← hagenda]
    rfl
  have hlast : txAccept (setAgenda rest (transmitted (s.txLen.toNat + 6) s)) =
      endTransmit .ok (setAgenda rest (frameSent s)) := by
    have hpos : (transmitted (s.txLen.toNat + 6) (setAgenda rest s)).txPos.toNat =
        (transmitted (s.txLen.toNat + 6) (setAgenda rest s)).txLen.toNat + 6 :=
      toNat_txPos_transmitted (s := setAgenda rest s) (Nat.le_refl _)
    have hlastByte : advanceTx (transmitted (s.txLen.toNat + 6) (setAgenda rest s)) =
        transmitted (s.txLen.toNat + 7) (setAgenda rest s) :=
      advanceTx_transmitted (s := setAgenda rest s) (Nat.le_refl _)
    rw [← transmitted_setAgenda, txAccept, if_pos hpos, hlastByte, transmitted_setAgenda, transmitted_all hl]
  have hrest := runSteps_transmitted (j := 0) (k := s.txLen.toNat + 6) (s := s) (rest := .tx .accept :: rest) hrun htx
    (by omega)
  rw [← hstart, Nat.zero_add] at hrest
  rw [runSteps_add (n := 1) hrest, runSteps, step_txAccept (s := transmitted (s.txLen.toNat + 6) s) hrun htx, hlast]
  rfl

/-! LOADTX (30_encoding.md R117). -/

/-- TX_BUF after the bytes `bs` are stored from TX_INDEX on. -/
def txStored (bs : List Byte) (s : State) : State :=
  { s with txBuf := storeBytes s.txBuf s.txIndex.toNat bs, txIndex := s.txIndex + BitVec.ofNat 16 bs.length }

theorem txByte_storeBytes {s t : State} {bs : List Byte} {j : Nat} (ht : t.txBuf = storeBytes s.txBuf 0 bs)
    (h : j < bs.length) : t.txByte j = bs[j] := by
  have hread := memRead_storeBytes (m := s.txBuf) (a := 0) h
  rw [Nat.zero_add, ← ht] at hread
  exact txByte_of_memRead hread

theorem txByte_storeBytes_of_outside {s t : State} {bs : List Byte} {i : Nat} (ht : t.txBuf = storeBytes s.txBuf 0 bs)
    (he : t.txEpoch = s.txEpoch) (h : bs.length ≤ i) : t.txByte i = s.txByte i := by
  rw [State.txByte, ht, he, memRead_storeBytes_of_outside (.inr (by rwa [Nat.zero_add])), State.txByte]

theorem txStored_nil (s : State) : txStored [] s = s := by
  simp [txStored, storeBytes]

theorem extractLsb'_setWidth_byte (b : Byte) : (b.setWidth 32).extractLsb' 0 8 = b := by
  have hb : b.toNat < 256 := b.isLt
  apply BitVec.eq_of_toNat_eq
  simp [hb]

theorem txStored_cons {b : Byte} {bs : List Byte} {s : State} (h : s.txIndex.toNat + 1 < 65536) :
    txStored (b :: bs) s = txStored bs (writeTxData (b.setWidth 32) s) := by
  have hindex : (s.txIndex + 1).toNat = s.txIndex.toNat + 1 := BitVec.toNat_add_of_lt (by simpa using h)
  have hcount : s.txIndex + BitVec.ofNat 16 (bs.length + 1) = s.txIndex + 1 + BitVec.ofNat 16 bs.length := by
    rw [Nat.add_comm, BitVec.ofNat_add, ← BitVec.add_assoc]
    rfl
  simp only [txStored, List.length_cons, hcount, storeBytes, writeTxData_txIndex, writeTxData_txBuf, hindex,
    extractLsb'_setWidth_byte]
  rfl

theorem execAll_cons_of_next {i : Instr} {prog : List Instr} {s t : State} (h : exec i s = .next t) :
    execAll (i :: prog) s = execAll prog t := by
  rw [execAll, h]

/-- TX_DATA writes one after another store their bytes one after another (40_host_access.md R146). -/
theorem execAll_wrTxData {bs : List Byte} {prog : List Instr} {s : State} (hrun : s.inReset = false)
    (hidle : s.busy = false) (hresp : s.resp = .done) (h : s.txIndex.toNat + bs.length < 65536) :
    execAll (bs.map (fun b => Instr.wrTxData (b.setWidth 32)) ++ prog) s = execAll prog (txStored bs s) := by
  induction bs generalizing s with
  | nil => rw [txStored_nil]; rfl
  | cons b bs ih =>
    rw [List.length_cons] at h
    have hexec : exec (.wrTxData (b.setWidth 32)) s = .next (writeTxData (b.setWidth 32) s) := by
      refine (hostWrite_unlessBusy_of_not_busy (writeTxData (b.setWidth 32)) hrun hidle).trans ?_
      rw [respond, ← hresp]
      rfl
    have hindex : (writeTxData (b.setWidth 32) s).txIndex.toNat = s.txIndex.toNat + 1 :=
      BitVec.toNat_add_of_lt (by simp; omega)
    rw [List.map_cons, List.cons_append, execAll_cons_of_next hexec, txStored_cons (by omega)]
    exact ih hrun hidle hresp (by rw [hindex]; omega)

/-- What LOADTX leaves: identifier and payload from index 0 of TX_BUF on, their count in TX_LEN and TX_INDEX. -/
def loadedTx (ident : Byte) (payload : List Byte) (s : State) : State :=
  { s with
    txBuf := storeBytes s.txBuf 0 (ident :: payload)
    txLen := BitVec.ofNat 16 (payload.length + 1)
    txIndex := BitVec.ofNat 16 (payload.length + 1)
    resp := .done }

theorem execAll_pseudoLoadTx {ident : Byte} {payload : List Byte} {s : State} (hrun : s.inReset = false)
    (hidle : s.busy = false) (hp : payload.length ≤ maxPayload) :
    execAll (pseudoLoadTx ident payload) s = .next (loadedTx ident payload s) := by
  simp only [maxPayload] at hp
  have hindex : exec (.wrTxIndex 0#32) s = .next (respond .done (writeTxIndex 0#32 s)) :=
    hostWrite_unlessBusy_of_not_busy (writeTxIndex 0#32) hrun hidle
  have hlen : (BitVec.ofNat 32 (payload.length + 1)).extractLsb' 0 16 = BitVec.ofNat 16 (payload.length + 1) :=
    BitVec.eq_of_toNat_eq (by simp)
  have hcount : 0#16 + BitVec.ofNat 16 (payload.length + 1) = BitVec.ofNat 16 (payload.length + 1) := BitVec.zero_add _
  have hlast : exec (.wrTxLen (BitVec.ofNat 32 (payload.length + 1)))
      (txStored (ident :: payload) (respond .done (writeTxIndex 0#32 s))) = .next (loadedTx ident payload s) := by
    refine (hostWrite_unlessBusy_of_not_busy (writeTxLen (BitVec.ofNat 32 (payload.length + 1)))
      (s := txStored (ident :: payload) (respond .done (writeTxIndex 0#32 s))) hrun hidle).trans ?_
    calc Host.Outcome.next _
        = .next { loadedTx ident payload s with
            txLen := (BitVec.ofNat 32 (payload.length + 1)).extractLsb' 0 16
            txIndex := 0#16 + BitVec.ofNat 16 (payload.length + 1) } := rfl
      _ = .next (loadedTx ident payload s) := by rw [hlen, hcount]; rfl
  have hroom : (respond .done (writeTxIndex 0#32 s)).txIndex.toNat + (ident :: payload).length < 65536 := by
    have hzero : (respond .done (writeTxIndex 0#32 s)).txIndex.toNat = 0 := rfl
    rw [hzero, List.length_cons]
    omega
  rw [pseudoLoadTx, List.cons_append, execAll_cons_of_next hindex,
    execAll_wrTxData (s := respond .done (writeTxIndex 0#32 s)) hrun hidle rfl hroom, execAll_cons_of_next hlast]
  rfl

/-- The frame in TX_BUF, given its bytes. -/
theorem txFrame_of_bytes {t : State} {ident : Byte} {payload : List Byte} (hlen : t.txLen.toNat = payload.length + 1)
    (hid : t.txByte 0 = ident) (hpay : ∀ j (h : j < payload.length), t.txByte (j + 1) = payload[j]) :
    txFrame t = encode (.frame ident payload) := by
  have hpayload : txPayload t = payload := by
    refine List.ext_getElem (by rw [length_txPayload, hlen, Nat.add_sub_cancel]) fun j _ hj => ?_
    simp only [txPayload, List.getElem_map, List.getElem_range]
    exact hpay j hj
  rw [txFrame, hpayload, hid]

/-! The statements. -/

/-- Settles O34: the program is a TX_INDEX write, the stores of the bytes and a TX_LEN write. -/
theorem loadTxLoadsFrame : Obligations.LoadTxLoadsFrame := by
  intro s ident payload hrun hidle hp
  have hbyte : ∀ j (h : j < (ident :: payload).length), (loadedTx ident payload s).txByte j = (ident :: payload)[j] :=
    fun j h => txByte_storeBytes (s := s) rfl h
  have hid : (loadedTx ident payload s).txByte 0 = ident := hbyte 0 (Nat.succ_pos _)
  have hpay : ∀ j (h : j < payload.length), (loadedTx ident payload s).txByte (j + 1) = payload[j] := fun j h =>
    hbyte (j + 1) (Nat.succ_lt_succ h)
  exact ⟨loadedTx ident payload s, execAll_pseudoLoadTx hrun hidle hp, rfl, hid, hpay,
    fun j hj => txByte_storeBytes_of_outside (s := s) rfl rfl hj, txFrame_of_bytes (toNat_frameLength hp) hid hpay⟩

/-- Settles O40: the frame goes out and ends the XMIT. -/
theorem xmitSendsItsFrame : Obligations.XmitSendsItsFrame := by
  intro s rest hrun hop htx hp hx hl hagenda
  rw [runSteps_transmit hrun htx hp hx hl hagenda, endTransmit_xmit (s := setAgenda rest (frameSent s)) hop]
  rfl

/-- Settles O41: what went out is the encoding of the frame in TX_BUF, with no garbage before it. -/
theorem xmitThenRecvRoundTrip : Obligations.XmitThenRecvRoundTrip := by
  intro s t u rest restU q hrun hop htx hp hx hl hagenda ht hrunU hopU hstU hagendaU hqU
  cases ht.symm.trans (xmitSendsItsFrame s rest hrun hop htx hp hx hl hagenda)
  rw [List.drop_left] at hqU
  have hpayload : (txPayload s).length + 1 = s.txLen.toNat := by rw [length_txPayload, Nat.sub_add_cancel hl]
  have hbound : s.txLen.toNat < 65536 := s.txLen.isLt
  have hturns : [].length (α := Byte) + ((txPayload s).length + 8) = s.txLen.toNat + 7 := by
    rw [List.length_nil]
    omega
  rw [← hturns] at hagendaU ⊢
  refine ⟨_, runSteps_recv_frame (garbage := []) rfl (by simp only [maxPayload]; omega) hrunU hopU hstU hagendaU hqU, rfl,
    ?_, rfl, fun j hj => ?_⟩
  · change BitVec.ofNat 16 ((txPayload s).length + 1) = s.txLen
    rw [hpayload, BitVec.ofNat_toNat, BitVec.setWidth_eq]
  · have hj' : j < (s.txByte 0 :: txPayload s).length := by rw [List.length_cons]; omega
    refine (rxByte_frameReceived (ident := s.txByte 0) (payload := txPayload s) (s := onPorts restU q u) rfl j hj').trans ?_
    simp [txByte_zero_cons_txPayload hl]

end Sys2Proof.Claims
end

section
/-! PROOFS of the family 'other', the wait of a SEND (43_sequencer.md R236 to R238, R246): through a wait the receiver's
registers, SQST and IRR_COUNT change and nothing else does (`WaitsOn`), and each frame is classified by its identifier. -/

open Sys2Proof.Machine

namespace Sys2Proof.Claims

/-! What a wait changes. -/

/-- `s` with the receiver's registers, SQST and IRR_COUNT of `t`. -/
def withReceiver (s t : State) : State :=
  { s with
    rxst := t.rxst, sqst := t.sqst, rxLen := t.rxLen, rxPos := t.rxPos, rxXor := t.rxXor, rxBuf := t.rxBuf,
    irrCount := t.irrCount }

/-- `t` differs from `s` in these fields at most. -/
structure WaitsOn (s t : State) : Prop where
  eq_withReceiver : t = withReceiver s t

theorem waitsOn_refl (s : State) : WaitsOn s s := ⟨rfl⟩

theorem waitsOn_trans {s t u : State} (h : WaitsOn s t) (h' : WaitsOn t u) : WaitsOn s u :=
  ⟨calc u = withReceiver t u := h'.eq_withReceiver
    _ = withReceiver (withReceiver s t) u := congrArg (withReceiver · u) h.eq_withReceiver
    _ = withReceiver s u := rfl⟩

theorem waitsOn_op {s t : State} (h : WaitsOn s t) : t.op = s.op := (congrArg State.op h.eq_withReceiver :)
theorem waitsOn_inReset {s t : State} (h : WaitsOn s t) : t.inReset = s.inReset :=
  (congrArg State.inReset h.eq_withReceiver :)
theorem waitsOn_attempts {s t : State} (h : WaitsOn s t) : t.attempts = s.attempts :=
  (congrArg State.attempts h.eq_withReceiver :)
theorem waitsOn_maxAttempts {s t : State} (h : WaitsOn s t) : t.maxAttempts = s.maxAttempts :=
  (congrArg State.maxAttempts h.eq_withReceiver :)
theorem waitsOn_irrBound {s t : State} (h : WaitsOn s t) : t.irrBound = s.irrBound :=
  (congrArg State.irrBound h.eq_withReceiver :)
theorem waitsOn_txLen {s t : State} (h : WaitsOn s t) : t.txLen = s.txLen := (congrArg State.txLen h.eq_withReceiver :)
theorem waitsOn_txBuf {s t : State} (h : WaitsOn s t) : t.txBuf = s.txBuf := (congrArg State.txBuf h.eq_withReceiver :)
theorem waitsOn_txEpoch {s t : State} (h : WaitsOn s t) : t.txEpoch = s.txEpoch :=
  (congrArg State.txEpoch h.eq_withReceiver :)
theorem waitsOn_agenda {s t : State} (h : WaitsOn s t) : t.agenda = s.agenda := (congrArg State.agenda h.eq_withReceiver :)
theorem waitsOn_rxQ {s t : State} (h : WaitsOn s t) : t.rxQ = s.rxQ := (congrArg State.rxQ h.eq_withReceiver :)
theorem waitsOn_sent {s t : State} (h : WaitsOn s t) : t.sent = s.sent := (congrArg State.sent h.eq_withReceiver :)

theorem waitsOn_txByte {s t : State} (h : WaitsOn s t) (i : Nat) : t.txByte i = s.txByte i :=
  txByte_congr (waitsOn_txBuf h) (waitsOn_txEpoch h) i

@[simp] theorem onPorts_attempts (a : List Turn) (q : List RxEvent) (s : State) : (onPorts a q s).attempts = s.attempts :=
  rfl
@[simp] theorem onPorts_maxAttempts (a : List Turn) (q : List RxEvent) (s : State) : (onPorts a q s).maxAttempts = s.maxAttempts :=
  rfl
@[simp] theorem onPorts_irrBound (a : List Turn) (q : List RxEvent) (s : State) : (onPorts a q s).irrBound = s.irrBound :=
  rfl
@[simp] theorem onPorts_irrCount (a : List Turn) (q : List RxEvent) (s : State) : (onPorts a q s).irrCount = s.irrCount :=
  rfl

theorem waitsOn_onPorts {s t : State} (h : WaitsOn s t) (a : List Turn) (q : List RxEvent) :
    WaitsOn (onPorts a q s) (onPorts a q t) :=
  ⟨congrArg (onPorts a q) h.eq_withReceiver⟩

/-- Other turns and events to come make no difference. -/
theorem waitsOn_onPorts_of_onPorts {s t : State} {a' : List Turn} {q' : List RxEvent} (h : WaitsOn (onPorts a' q' s) t)
    (a : List Turn) (q : List RxEvent) : WaitsOn (onPorts a q s) (onPorts a q t) :=
  ⟨(congrArg (onPorts a q) h.eq_withReceiver :)⟩

theorem irrelevantTo_of_waitsOn {s t : State} (h : WaitsOn s t) {f : Byte × List Byte} (hf : irrelevantTo s f) :
    irrelevantTo t f := by
  rw [irrelevantTo, waitsOn_txByte h]
  exact hf

theorem txByte_onPorts (a : List Turn) (q : List RxEvent) (s : State) (i : Nat) : (onPorts a q s).txByte i = s.txByte i := rfl

theorem irrelevantTo_onPorts {a : List Turn} {q : List RxEvent} {s : State} {f : Byte × List Byte} :
    irrelevantTo (onPorts a q s) f ↔ irrelevantTo s f :=
  Iff.rfl

theorem attemptFailed_retry {s : State} (h : s.attempts < s.maxAttempts) (c : Code) :
    attemptFailed c s = startAttempt (recordCause c s) :=
  if_pos h

theorem attemptFailed_last {s : State} (h : ¬ s.attempts < s.maxAttempts) (c : Code) :
    attemptFailed c s = complete .exceeded c (recordCause c s) :=
  if_neg h

/-! A frame received in a wait (43_sequencer.md R236, R237). -/

/-- `v` is `s` after a good frame of this payload, before it is classified. -/
structure GoodFrame (payload : List Byte) (s v : State) : Prop where
  waits : WaitsOn s v
  irrCount : v.irrCount = s.irrCount
  target : v.targetMatches ↔ payload.head? = some (s.txByte 0)

theorem goodFrame_frameReceived (ident : Byte) {payload : List Byte} (hp : payload.length ≤ maxPayload) (s : State) :
    GoodFrame payload s (stopPorts (frameReceived ident payload s)) := by
  refine ⟨⟨rfl⟩, rfl, ?_⟩
  have hlen : (stopPorts (frameReceived ident payload s)).rxLen.toNat = payload.length + 1 := toNat_frameLength hp
  rw [State.targetMatches, hlen]
  cases payload with
  | nil => simp
  | cons p payload =>
    have htarget : (stopPorts (frameReceived ident (p :: payload) s)).rxByte 1 = p :=
      rxByte_frameReceived (s := s) (t := stopPorts (frameReceived ident (p :: payload) s)) rfl 1 (by simp)
    have htx : (stopPorts (frameReceived ident (p :: payload) s)).txByte 0 = s.txByte 0 := rfl
    rw [htarget, htx, List.head?_cons, Option.some_inj]
    exact ⟨fun h => h.2, fun h => ⟨by simp, h⟩⟩

/-- A frame behind garbage is classified by its identifier. -/
theorem takeBytes_garbage_frame_wait {garbage : List Byte} {ident : Byte} {payload : List Byte} {s : State}
    (hg : noPreamble garbage = true) (hp : payload.length ≤ maxPayload) (hrun : s.inReset = false) (hop : s.op = .send)
    (hst : s.rxst = .seek1) :
    ∃ v, takeBytes (garbage ++ frameBytes ident payload) s = .next (classifyAs ident v) ∧ GoodFrame payload s v := by
  have hident : (frameReceived ident payload s).rxByte 0 = ident := rxByte_frameReceived (s := s) rfl 0 (Nat.succ_pos _)
  refine ⟨stopPorts (frameReceived ident payload s), ?_, goodFrame_frameReceived ident hp s⟩
  rw [takeBytes_garbage_frame hg hp hst hrun, endReceive_send_ok (s := frameReceived ident payload s) hop, hident]

/-- The frame turn of a frame first in the queue classifies its identifier. -/
theorem step_rxFrame_wait {s : State} {ident : Byte} {payload : List Byte} {q : List RxEvent} {rest : List Turn}
    (hagenda : s.agenda = .rxFrame :: rest) (hq : s.rxQ = events (frameBytes ident payload) ++ q)
    (hp : payload.length ≤ maxPayload) (hrun : s.inReset = false) (hop : s.op = .send) (hst : s.rxst = .seek1) :
    ∃ v, step s = .next (classifyAs ident v) ∧ GoodFrame payload (onPorts rest q s) v := by
  obtain ⟨v, hv, hgood⟩ := takeBytes_garbage_frame_wait (garbage := []) (ident := ident) (s := onPorts rest q s) rfl hp hrun
    hop hst
  exact ⟨v, ((step_of_agenda hagenda).trans (rxFrameTurn_of_frame (s := setAgenda rest s) hp hq)).trans hv, hgood⟩

theorem classifyAs_irrelevantTo {ident : Byte} {payload : List Byte} {s v : State} (hgood : GoodFrame payload s v)
    (h : irrelevantTo s (ident, payload)) : classifyAs ident v = irrelevant v :=
  classifyAs_of_not_acknowledgement fun hack => h ⟨hack.1, hgood.target.mp hack.2⟩

theorem irrCount_lt {s : State} (h : s.irrCount.toNat ≤ s.irrBound.toNat) : s.irrCount.toNat < 511 := by
  have hbound : s.irrBound.toNat < 256 := s.irrBound.isLt
  omega

/-- An irrelevant frame within the bound is counted, and the wait goes on (43_sequencer.md R238). -/
theorem classifyAs_within {ident : Byte} {payload : List Byte} {s v : State} (hgood : GoodFrame payload s v)
    (h : irrelevantTo s (ident, payload)) (hle : s.irrCount.toNat + 1 ≤ s.irrBound.toNat) :
    WaitsOn s (classifyAs ident v) ∧ (classifyAs ident v).rxst = .seek1 ∧
      (classifyAs ident v).irrCount.toNat = s.irrCount.toNat + 1 := by
  have hlt : v.irrCount.toNat < 511 := by
    rw [hgood.irrCount]
    exact irrCount_lt (by omega)
  have hle' : v.irrCount.toNat + 1 ≤ v.irrBound.toNat := by rwa [hgood.irrCount, waitsOn_irrBound hgood.waits]
  rw [classifyAs_irrelevantTo hgood h, irrelevant_within hlt hle']
  refine ⟨⟨congrArg (fun u => startReceive (countIrrelevant u)) hgood.waits.eq_withReceiver⟩, rfl, ?_⟩
  rw [← hgood.irrCount]
  exact toNat_irrCount_succ hlt

/-- An irrelevant frame past the bound in the last attempt ends the SEND (43_sequencer.md R238, R241). -/
theorem classifyAs_beyond_last {ident : Byte} {payload : List Byte} {s v : State} (hgood : GoodFrame payload s v)
    (h : irrelevantTo s (ident, payload)) (hcount : s.irrCount.toNat = s.irrBound.toNat) (hmax : s.attempts = s.maxAttempts) :
    classifyAs ident v = complete .exceeded .irrelevant (recordCause .irrelevant (countIrrelevant v)) := by
  have hbound : v.irrBound.toNat = v.irrCount.toNat := by rw [waitsOn_irrBound hgood.waits, hgood.irrCount, hcount]
  have hlast : ¬ (countIrrelevant v).attempts < (countIrrelevant v).maxAttempts := by
    rw [countIrrelevant_attempts, countIrrelevant_maxAttempts, waitsOn_attempts hgood.waits, waitsOn_maxAttempts hgood.waits,
      hmax]
    exact BitVec.lt_irrefl _
  rw [classifyAs_irrelevantTo hgood h, irrelevant_beyond (irrCount_lt (Nat.le_of_eq hbound.symm)) (by omega), attemptFailed_last hlast]

/-- Irrelevant frames up to the bound are counted, and the wait goes on (43_sequencer.md R238). -/
theorem runSteps_irrelevantFrames {frames : List (Byte × List Byte)} {s : State} {q : List RxEvent} {rest : List Turn}
    (hrun : s.inReset = false) (hop : s.op = .send) (hst : s.rxst = .seek1)
    (hframes : ∀ f ∈ frames, f.2.length ≤ maxPayload ∧ irrelevantTo s f)
    (hcount : s.irrCount.toNat + frames.length ≤ s.irrBound.toNat)
    (hagenda : s.agenda = List.replicate frames.length Turn.rxFrame ++ rest)
    (hq : s.rxQ = events (frames.map fun f => frameBytes f.1 f.2).flatten ++ q) :
    ∃ t, runSteps frames.length s = .next t ∧ WaitsOn (onPorts rest q s) t ∧ t.rxst = .seek1 ∧
      t.irrCount.toNat = s.irrCount.toNat + frames.length := by
  induction frames generalizing s with
  | nil => cases hagenda; cases hq; exact ⟨s, rfl, waitsOn_refl s, hst, rfl⟩
  | cons f frames ih =>
    obtain ⟨ident, payload⟩ := f
    rw [List.length_cons] at hcount
    rw [List.length_cons, List.replicate_succ, List.cons_append] at hagenda
    rw [List.map_cons, List.flatten_cons, events_append, List.append_assoc] at hq
    obtain ⟨⟨hp, hirr⟩, htail⟩ := List.forall_mem_cons.mp hframes
    obtain ⟨v, hstep, hgood⟩ := step_rxFrame_wait hagenda hq hp hrun hop hst
    obtain ⟨hwaits, hseek, hsucc⟩ := classifyAs_within hgood hirr (show s.irrCount.toNat + 1 ≤ s.irrBound.toNat by omega)
    generalize classifyAs ident v = u at hstep hwaits hseek hsucc
    have hsucc : u.irrCount.toNat = s.irrCount.toNat + 1 := hsucc
    have hbound : u.irrBound = (onPorts _ _ s).irrBound := waitsOn_irrBound hwaits
    have hnext : ∀ f ∈ frames, f.2.length ≤ maxPayload ∧ irrelevantTo u f := fun f hf =>
      ⟨(htail f hf).1, irrelevantTo_of_waitsOn hwaits (htail f hf).2⟩
    have hroom : u.irrCount.toNat + frames.length ≤ u.irrBound.toNat := by
      rw [hsucc, hbound]
      exact (by omega : s.irrCount.toNat + 1 + frames.length ≤ s.irrBound.toNat)
    obtain ⟨t, ht, hkeeps, hstt, hcountt⟩ := ih ((waitsOn_inReset hwaits).trans hrun) ((waitsOn_op hwaits).trans hop) hseek
      hnext hroom (waitsOn_agenda hwaits) (waitsOn_rxQ hwaits)
    refine ⟨t, ?_, waitsOn_trans (waitsOn_onPorts hwaits rest q) hkeeps, hstt, by rw [hcountt, hsucc, List.length_cons]; omega⟩
    rw [List.length_cons, runSteps, hstep]
    exact ht

/-- Settles O49: the bounded run of irrelevant frames leaves the SEND waiting at the bound, and the last frame decides. -/
theorem irrelevantBoundIsExact : Obligations.IrrelevantBoundIsExact := by
  intro s frames final q rest hrun hop _ hst hzero hframes hcount hfinal hagenda hq
  obtain ⟨ident, payload⟩ := final
  have hzero : s.irrCount.toNat = 0 := by rw [hzero]; rfl
  have hlast : events ([(ident, payload)].map fun f => encode (.frame f.1 f.2)).flatten =
      events (frameBytes ident payload) := by simp [encode]
  rw [List.replicate_succ', List.append_assoc, List.singleton_append] at hagenda
  rw [List.map_append, List.flatten_append, events_append, List.append_assoc, hlast] at hq
  obtain ⟨t, ht, hkeeps, hstt, hcountt⟩ := runSteps_irrelevantFrames hrun hop hst hframes (by omega) hagenda hq
  obtain ⟨v, hstep, hgood⟩ := step_rxFrame_wait (waitsOn_agenda hkeeps) (waitsOn_rxQ hkeeps) hfinal
    ((waitsOn_inReset hkeeps).trans hrun) ((waitsOn_op hkeeps).trans hop) hstt
  have hwaitst : WaitsOn (onPorts rest q s) (onPorts rest q t) := waitsOn_onPorts_of_onPorts hkeeps rest q
  have hwaits : WaitsOn (onPorts rest q s) v := waitsOn_trans hwaitst hgood.waits
  have hcountv : v.irrCount.toNat = s.irrBound.toNat := by
    rw [hgood.irrCount]
    exact (by omega : t.irrCount.toNat = s.irrBound.toNat)
  have htx : (onPorts rest q t).txByte 0 = s.txByte 0 :=
    (waitsOn_txByte hwaitst 0).trans (txByte_onPorts rest q s 0)
  refine ⟨classifyAs ident v, ?_, ?_, ?_, fun hack htarget => ?_, fun hirr hmax => ?_⟩
  · rw [runSteps_add ht, runSteps, hstep]
    rfl
  · rw [classifyAs_rxQ]
    exact waitsOn_rxQ hwaits
  · rw [classifyAs_agenda]
    exact waitsOn_agenda hwaits
  · rw [show ident = Config.ackId from hack, classifyAs_ack (hgood.target.mpr (by rw [htx]; exact htarget))]
    exact ⟨rfl, rfl, rfl, rfl, hcountv⟩
  · have hlast : classifyAs ident v = complete .exceeded .irrelevant (recordCause .irrelevant (countIrrelevant v)) := by
      refine classifyAs_beyond_last hgood (irrelevantTo_of_waitsOn hwaitst (irrelevantTo_onPorts.mpr hirr))
        ?_ ?_
      · rw [onPorts_irrBound, onPorts_irrCount, waitsOn_irrBound hkeeps, onPorts_irrBound, hcountt, hzero, hcount, Nat.zero_add]
      · rw [onPorts_attempts, onPorts_maxAttempts, waitsOn_attempts hkeeps, waitsOn_maxAttempts hkeeps, onPorts_attempts,
          onPorts_maxAttempts, hmax]
    have hlt : v.irrCount.toNat < 511 := by
      have hbound : s.irrBound.toNat < 256 := s.irrBound.isLt
      omega
    rw [hlast]
    refine ⟨rfl, rfl, rfl, rfl, ?_⟩
    rw [complete_irrCount, recordCause_irrCount, countIrrelevant_irrCount, toNat_irrCount_succ hlt, hcountv]

end Sys2Proof.Claims
end

section
/-! PROOFS of the family 'other', runs of a SEND (43_sequencer.md R230 to R245). A SEND is a row of attempts, each a transmission
and a wait. What an attempt needs of the frame and the configuration is that of the state the SEND was issued in (`SendOf`),
and each attempt puts the frame on the wire once more. -/

open Sys2Proof.Machine

namespace Sys2Proof.Machine

/-- `u` is in a SEND of the frame and with the configuration of `s`, in attempt `k`, with the frame on the wire `j` times. -/
structure State.SendOf (s : State) (k j : Nat) (u : State) : Prop where
  running : u.inReset = false
  op : u.op = .send
  txLen : u.txLen = s.txLen
  txBuf : u.txBuf = s.txBuf
  txEpoch : u.txEpoch = s.txEpoch
  maxAttempts : u.maxAttempts = s.maxAttempts
  irrBound : u.irrBound = s.irrBound
  attempts : u.attempts.toNat = k
  sent : u.sent = s.sent ++ (List.replicate j (Claims.txFrame s)).flatten

/-- `u` is at the first byte of attempt `k + 1` of such a SEND. -/
structure State.AttemptOf (s : State) (k : Nat) (u : State) : Prop extends State.SendOf s (k + 1) k u where
  sqst : u.sqst = .xmit
  txPos : u.txPos = 0
  txXor : u.txXor = 0
  irrCount : u.irrCount = 0

end Sys2Proof.Machine

namespace Sys2Proof.Claims

/-! The transmission of an attempt. -/

theorem sendOf_of_waitsOn {s u t : State} {k j : Nat} (h : State.SendOf s k j u) (hw : WaitsOn u t) :
    State.SendOf s k j t where
  running := (waitsOn_inReset hw).trans h.running
  op := (waitsOn_op hw).trans h.op
  txLen := (waitsOn_txLen hw).trans h.txLen
  txBuf := (waitsOn_txBuf hw).trans h.txBuf
  txEpoch := (waitsOn_txEpoch hw).trans h.txEpoch
  maxAttempts := (waitsOn_maxAttempts hw).trans h.maxAttempts
  irrBound := (waitsOn_irrBound hw).trans h.irrBound
  attempts := by rw [waitsOn_attempts hw, h.attempts]
  sent := (waitsOn_sent hw).trans h.sent

theorem sendOf_onPorts {s u : State} {k j : Nat} (h : State.SendOf s k j u) (a : List Turn) (q : List RxEvent) :
    State.SendOf s k j (onPorts a q u) :=
  ⟨h.running, h.op, h.txLen, h.txBuf, h.txEpoch, h.maxAttempts, h.irrBound, h.attempts, h.sent⟩

theorem txByte_of_sendOf {s u : State} {k j : Nat} (h : State.SendOf s k j u) (i : Nat) : u.txByte i = s.txByte i :=
  txByte_congr h.txBuf h.txEpoch i

theorem txFrame_of_sendOf {s u : State} {k j : Nat} (h : State.SendOf s k j u) : txFrame u = txFrame s := by
  simp only [txFrame, txPayload, txByte_of_sendOf h, h.txLen]

/-- The start of the wait after a transmission, with the turns `rest` to come. -/
def waitStart (rest : List Turn) (u : State) : State :=
  { u with
    sqst := .recv
    rxst := .seek1
    rxPos := 0
    rxXor := 0
    sent := u.sent ++ txFrame u
    txPos := BitVec.ofNat 17 (u.txLen.toNat + 7)
    txXor := u.txXorTo u.txLen.toNat
    agenda := rest }

theorem sendOf_waitStart {s u : State} {k : Nat} (h : State.AttemptOf s k u) (rest : List Turn) :
    State.SendOf s (k + 1) (k + 1) (waitStart rest u) := by
  refine ⟨h.running, h.op, h.txLen, h.txBuf, h.txEpoch, h.maxAttempts, h.irrBound, h.attempts, ?_⟩
  have hsent : (waitStart rest u).sent = u.sent ++ txFrame u := rfl
  rw [hsent, h.sent, txFrame_of_sendOf h.toSendOf, List.replicate_succ', List.flatten_append, List.flatten_singleton,
    List.append_assoc]

/-- With every byte accepted the attempt goes over to its wait (43_sequencer.md R234). -/
theorem runSteps_attempt {s u : State} {k : Nat} {rest : List Turn} (h : State.AttemptOf s k u) (hl : 1 ≤ s.txLen.toNat)
    (hagenda : u.agenda = List.replicate (s.txLen.toNat + 7) (.tx .accept) ++ rest) :
    ∃ v, runSteps (s.txLen.toNat + 7) u = .next v ∧ State.SendOf s (k + 1) (k + 1) v ∧ v.rxst = .seek1 ∧ v.irrCount = 0 ∧
      v.agenda = rest ∧ v.rxQ = u.rxQ := by
  refine ⟨waitStart rest u, ?_, sendOf_waitStart h rest, rfl, h.irrCount, rfl, rfl⟩
  rw [← h.txLen] at hagenda hl ⊢
  rw [runSteps_transmit h.running h.sqst h.txPos h.txXor hl hagenda,
    endTransmit_send_ok (s := setAgenda rest (frameSent u)) h.op]
  rfl

/-- After a failure with attempts left the next attempt begins (43_sequencer.md R241). -/
theorem attemptOf_attemptFailed {s v : State} {k : Nat} (h : State.SendOf s (k + 1) (k + 1) v) (c : Code)
    (hleft : k + 1 < s.maxAttempts.toNat) : State.AttemptOf s (k + 1) (attemptFailed c v) := by
  have hlt : v.attempts < v.maxAttempts := by
    rw [BitVec.lt_def, h.attempts, h.maxAttempts]
    exact hleft
  have hsucc : (v.attempts + 1).toNat = k + 2 := by
    have hmax : s.maxAttempts.toNat < 256 := s.maxAttempts.isLt
    rw [BitVec.toNat_add_of_lt (by rw [h.attempts]; simp; omega), h.attempts]
    rfl
  rw [attemptFailed_retry hlt]
  exact ⟨⟨h.running, h.op, h.txLen, h.txBuf, h.txEpoch, h.maxAttempts, h.irrBound, hsucc, h.sent⟩, rfl, rfl, rfl, rfl⟩

/-- After a failure in the last attempt the SEND ends (43_sequencer.md R241). -/
theorem attemptFailed_of_none_left {s v : State} {k j : Nat} (h : State.SendOf s k j v) (c : Code)
    (hleft : s.maxAttempts.toNat ≤ k) : attemptFailed c v = complete .exceeded c (recordCause c v) := by
  refine attemptFailed_last (fun hlt => ?_) c
  rw [BitVec.lt_def, h.attempts, h.maxAttempts] at hlt
  omega

/-- The write that issues a SEND begins its first attempt (43_sequencer.md R230). -/
theorem step_wrCmd_send {s : State} {v : Word} {rest : List Turn} (hrun : s.inReset = false) (hidle : s.busy = false)
    (hl : 1 ≤ s.txLen.toNat) (hv : v.extractLsb' 0 4 = 0x3#4) (hmax : 1 ≤ s.maxAttempts.toNat)
    (hagenda : s.agenda = wordWrite .cmd v :: rest) :
    ∃ u, step s = .next u ∧ State.AttemptOf s 0 u ∧ u.agenda = rest ∧ u.rxQ = s.rxQ := by
  have hissue : issueCommand (v.extractLsb' 0 4) (setAgenda rest s) =
      startAttempt (clearCounts (accept .send (setAgenda rest s))) := by
    rw [hv, issueCommand_send (s := setAgenda rest s) hidle (ne_zero_of_one_le_toNat hl),
      startSend_of_attempts (s := accept .send (setAgenda rest s)) (ne_zero_of_one_le_toNat hmax)]
  have hstep : step s = .next (respond .done (issueCommand (v.extractLsb' 0 4) (setAgenda rest s))) :=
    calc step s = hostTurn (wordAccess .write .cmd v) (setAgenda rest s) := step_host hagenda
      _ = exec (.wrCmd v) (setAgenda rest s) := hostTurn_wordAccess .write .cmd v _
      _ = hostWrite (writeEffect v .cmd) (setAgenda rest s) := exec_writeInstr v .cmd _
      _ = _ := hostWrite_of_not_inReset (writeEffect v .cmd) (s := setAgenda rest s) hrun
  rw [hissue] at hstep
  exact ⟨_, hstep, ⟨⟨hrun, rfl, rfl, rfl, rfl, rfl, rfl, rfl, (List.append_nil _).symm⟩, rfl, rfl, rfl, rfl⟩, rfl, rfl⟩

/-! An acknowledgement (43_sequencer.md R237). -/

/-- A frame with the right target first in the queue is classified as an acknowledgement. -/
theorem step_rxFrame_target {s v : State} {k j : Nat} {ident : Byte} {p : List Byte} {q : List RxEvent} {rest : List Turn}
    (h : State.SendOf s k j v) (hst : v.rxst = .seek1) (hp : p.length ≤ 65533) (hagenda : v.agenda = .rxFrame :: rest)
    (hq : v.rxQ = events (frameBytes ident (s.txByte 0 :: p)) ++ q) :
    ∃ t, step v = .next (classifyAs ident t) ∧ State.SendOf s k j t ∧ t.targetMatches ∧ t.agenda = rest ∧ t.rxQ = q := by
  obtain ⟨t, hstep, hgood⟩ := step_rxFrame_wait hagenda hq (Nat.succ_le_succ hp) h.running h.op hst
  have htarget : t.targetMatches := hgood.target.mpr (by rw [txByte_onPorts, txByte_of_sendOf h, List.head?_cons])
  exact ⟨t, hstep, sendOf_of_waitsOn (sendOf_onPorts h rest q) hgood.waits, htarget, waitsOn_agenda hgood.waits,
    waitsOn_rxQ hgood.waits⟩

/-- Settles O50: the NACK fails the first attempt, and the ACK ends the second. -/
theorem nackThenAckTakesTwoAttempts : Obligations.NackThenAckTakesTwoAttempts := by
  intro s v p1 p2 q rest hrun hidle hl hv hmax hp1 hp2 hagenda hq
  rw [events_append, List.append_assoc] at hq
  obtain ⟨u, hwrite, hu, hagendau, hqu⟩ := step_wrCmd_send hrun hidle hl hv (by omega) hagenda
  obtain ⟨w, hsend, hw, hstw, -, hagendaw, hqw⟩ := runSteps_attempt hu hl hagendau
  obtain ⟨x, hnack, hx, htargetx, hagendax, hqx⟩ := step_rxFrame_target hw hstw hp1 hagendaw (hqw.trans (hqu.trans hq))
  have hretry := attemptOf_attemptFailed hx .nack (by omega)
  obtain ⟨y, hsend', hy, hsty, -, hagenday, hqy⟩ := runSteps_attempt hretry hl ((attemptFailed_agenda .nack x).trans hagendax)
  obtain ⟨z, hack, hz, htargetz, hagendaz, hqz⟩ := step_rxFrame_target hy hsty hp2 hagenday
    (hqy.trans ((attemptFailed_rxQ .nack x).trans hqx))
  have hnack : runSteps 1 w = .next (attemptFailed .nack x) := by
    rw [runSteps, hnack, show (0x84#8 : Byte) = Config.nackId from rfl, classifyAs_nack htargetx]
    rfl
  have hack : runSteps 1 y = .next (complete .ok .none z) := by
    rw [runSteps, hack, show (0x83#8 : Byte) = Config.ackId from rfl, classifyAs_ack htargetz]
    rfl
  have hwrite : runSteps 1 s = .next u := by
    rw [runSteps, hwrite]
    rfl
  have hcount : 1 + 2 * (s.txLen.toNat + 8) = 1 + (s.txLen.toNat + 7 + (1 + (s.txLen.toNat + 7 + 1))) := by omega
  refine ⟨complete .ok .none z, ?_, rfl, rfl, rfl, rfl, BitVec.eq_of_toNat_eq hz.attempts, hqz, hagendaz, ?_⟩
  · rw [hcount, runSteps_add hwrite, runSteps_add hsend, runSteps_add hnack, runSteps_add hsend', hack]
  · rw [complete_sent, hz.sent]
    simp

end Sys2Proof.Claims
end

section
/-! PROOFS of the family 'other', waits of a SEND with no acknowledgement (43_sequencer.md R245): irrelevant frames are counted,
bytes that complete no body leave the receiver running, and the event that ends the wait fails the attempt. -/

open Sys2Proof.Machine

namespace Sys2Proof.Claims

/-! Irrelevant frames, each behind garbage. -/

theorem takeBytes_irrelevantFrames {frames : List (List Byte × Byte × List Byte)} {s : State} (hrun : s.inReset = false)
    (hop : s.op = .send) (hst : s.rxst = .seek1)
    (hframes : ∀ f ∈ frames, noPreamble f.1 = true ∧ f.2.2.length ≤ maxPayload ∧ irrelevantTo s f.2)
    (hcount : s.irrCount.toNat + frames.length ≤ s.irrBound.toNat) :
    ∃ t, takeBytes (frames.map fun f => f.1 ++ frameBytes f.2.1 f.2.2).flatten s = .next t ∧ WaitsOn s t ∧ t.rxst = .seek1 ∧
      t.irrCount.toNat = s.irrCount.toNat + frames.length := by
  induction frames generalizing s with
  | nil => exact ⟨s, rfl, waitsOn_refl s, hst, rfl⟩
  | cons f frames ih =>
    obtain ⟨garbage, ident, payload⟩ := f
    rw [List.length_cons] at hcount
    obtain ⟨⟨hg, hp, hirr⟩, htail⟩ := List.forall_mem_cons.mp hframes
    obtain ⟨v, htake, hgood⟩ := takeBytes_garbage_frame_wait (ident := ident) hg hp hrun hop hst
    obtain ⟨hwaits, hseek, hsucc⟩ := classifyAs_within hgood hirr (by omega)
    generalize classifyAs ident v = u at htake hwaits hseek hsucc
    have hrunu : u.inReset = false := (waitsOn_inReset hwaits).trans hrun
    have hnext : ∀ f ∈ frames, noPreamble f.1 = true ∧ f.2.2.length ≤ maxPayload ∧ irrelevantTo u f.2 := fun f hf =>
      ⟨(htail f hf).1, (htail f hf).2.1, irrelevantTo_of_waitsOn hwaits (htail f hf).2.2⟩
    have hroom : u.irrCount.toNat + frames.length ≤ u.irrBound.toNat := by
      rw [hsucc, waitsOn_irrBound hwaits]
      omega
    obtain ⟨t, ht, hkeeps, hstt, hcountt⟩ := ih hrunu ((waitsOn_op hwaits).trans hop) hseek hnext hroom
    refine ⟨t, ?_, waitsOn_trans hwaits hkeeps, hstt, by rw [hcountt, hsucc, List.length_cons]; omega⟩
    rw [List.map_cons, List.flatten_cons, takeBytes_append htake (takesRx_of_searching ⟨.inl hseek, hrunu⟩), ht]

/-! Bytes that complete no body. -/

theorem cutShort_of_ne {b : Byte} {bs : List Byte} (h : b ≠ Config.preamble1) : cutShort (b :: bs) = cutShort bs := by
  cases bs with
  | nil => rfl
  | cons c bs => exact if_neg fun hpre => h hpre.1

theorem cutShort_preamble1 {b : Byte} {bs : List Byte} (h : b ≠ Config.preamble2) :
    cutShort (Config.preamble1 :: b :: bs) = cutShort (b :: bs) :=
  if_neg fun hpre => h hpre.2

theorem length_lt_of_cutShort {h l : Byte} {body : List Byte}
    (hcut : cutShort (Config.preamble1 :: Config.preamble2 :: h :: l :: body) = true) :
    body.length < (h ++ l : BitVec 16).toNat + 3 := by
  rw [cutShort, if_pos ⟨rfl, rfl⟩] at hcut
  exact of_decide_eq_true hcut

/-- A cut frame leaves the receiver running, after its second preamble byte and after all else it holds. -/
theorem takeBytes_lenH_of_cutShort {bs : List Byte} {s : State} (hst : s.rxst = .lenH) (hrun : s.inReset = false)
    (hcut : cutShort (Config.preamble1 :: Config.preamble2 :: bs) = true) :
    ∃ t, takeBytes bs s = .next t ∧ WaitsOn s t ∧ t.rxst ≠ .idle ∧ t.irrCount = s.irrCount := by
  have hrx : s.takesRx = true := takesRx_eq_true (by rw [hst]; decide) hrun
  match bs with
  | [] => exact ⟨s, rfl, waitsOn_refl s, by rw [hst]; decide, rfl⟩
  | [h] => exact ⟨takeLengthHigh h s, takeBytes_cons_of_next hrx (takeEvent_lenH hst h), ⟨rfl⟩, nofun, rfl⟩
  | h :: l :: body =>
    have hbody : takeBytes body (bodyStart h l s) = .next (bodyStored body (bodyStart h l s)) := by
      refine takeBytes_body_of_lt (s := bodyStart h l s) rfl hrun ?_
      rw [show (bodyStart h l s).rxPos.toNat = 0 from rfl, Nat.zero_add]
      exact length_lt_of_cutShort hcut
    have hstart : takeLengthLow l (takeLengthHigh h s) = bodyStart h l s := by
      simp only [takeLengthLow, takeLengthHigh, extractLsb'_append_high]
      rfl
    refine ⟨bodyStored body (bodyStart h l s), ?_, ⟨rfl⟩, nofun, rfl⟩
    rw [takeBytes_cons_of_next hrx (takeEvent_lenH hst h),
      takeBytes_cons_of_next (takesRx_eq_true (s := takeLengthHigh h s) nofun hrun) (takeEvent_lenL rfl l), hstart, hbody]

theorem takeBytes_cutShort {bs : List Byte} {s : State} (hs : searching s)
    (h : (s.rxst = .seek1 ∧ cutShort bs = true) ∨ (s.rxst = .seek2 ∧ cutShort (Config.preamble1 :: bs) = true)) :
    ∃ t, takeBytes bs s = .next t ∧ WaitsOn s t ∧ t.rxst ≠ .idle ∧ t.irrCount = s.irrCount := by
  induction bs generalizing s with
  | nil => exact ⟨s, rfl, waitsOn_refl s, (not_inReset_of_takesRx (takesRx_of_searching hs)).1, rfl⟩
  | cons b bs ih =>
    have hrx := takesRx_of_searching hs
    have goesOn : ∀ x : RxSt, takeEvent (.byte b) s = .next (setRxst x s) →
        (∃ t, takeBytes bs (setRxst x s) = .next t ∧ WaitsOn (setRxst x s) t ∧ t.rxst ≠ .idle ∧
          t.irrCount = (setRxst x s).irrCount) →
        ∃ t, takeBytes (b :: bs) s = .next t ∧ WaitsOn s t ∧ t.rxst ≠ .idle ∧ t.irrCount = s.irrCount := by
      rintro x hevent ⟨t, ht, hwaits, hne, hcount⟩
      exact ⟨t, (takeBytes_cons_of_next hrx hevent).trans ht, waitsOn_trans (t := setRxst x s) ⟨rfl⟩ hwaits, hne, hcount⟩
    by_cases hb : b = Config.preamble1
    · subst hb
      have hcut : cutShort (Config.preamble1 :: bs) = true :=
        h.elim (·.2) fun h => (cutShort_preamble1 (by decide)).symm.trans h.2
      exact goesOn .seek2 (takeEvent_preamble1 hs) (ih (s := setRxst .seek2 s) ⟨.inr rfl, hs.2⟩ (.inr ⟨rfl, hcut⟩))
    · obtain ⟨hst, hcut⟩ | ⟨hst, hcut⟩ := h
      · rw [cutShort_of_ne hb] at hcut
        exact goesOn .seek1 (by rw [takeEvent_seek1 hst, if_neg hb])
          (ih (s := setRxst .seek1 s) ⟨.inl rfl, hs.2⟩ (.inl ⟨rfl, hcut⟩))
      · by_cases hb' : b = Config.preamble2
        · subst hb'
          exact goesOn .lenH (by rw [takeEvent_seek2 hst, if_pos rfl])
            (takeBytes_lenH_of_cutShort (s := setRxst .lenH s) rfl hs.2 hcut)
        · rw [cutShort_preamble1 hb', cutShort_of_ne hb] at hcut
          exact goesOn .seek1 (by rw [takeEvent_seek2 hst, if_neg hb', if_neg hb])
            (ih (s := setRxst .seek1 s) ⟨.inl rfl, hs.2⟩ (.inl ⟨rfl, hcut⟩))

/-! A whole wait. -/

/-- The bytes of such a wait leave the receiver running, with the irrelevant frames counted. -/
theorem takeBytes_unanswered {s u : State} {k j : Nat} {w : Wait} (h : State.SendOf s k j u) (hst : u.rxst = .seek1)
    (hzero : u.irrCount = 0) (hw : w.unanswered s) :
    ∃ t, takeBytes w.bytes u = .next t ∧ WaitsOn u t ∧ t.rxst ≠ .idle ∧ t.irrCount.toNat = w.frames.length := by
  obtain ⟨hframes, hbound, hcut, -⟩ := hw
  have hzero : u.irrCount.toNat = 0 := by rw [hzero]; rfl
  have hirr : ∀ f ∈ w.frames, noPreamble f.1 = true ∧ f.2.2.length ≤ maxPayload ∧ irrelevantTo u f.2 := fun f hf => by
    obtain ⟨hg, hp, hirr⟩ := hframes f hf
    refine ⟨hg, hp, ?_⟩
    rwa [irrelevantTo, txByte_of_sendOf h]
  obtain ⟨t, ht, hwaits, hseek, hcount⟩ := takeBytes_irrelevantFrames h.running h.op hst hirr
    (by rw [hzero, h.irrBound, Nat.zero_add]; exact hbound)
  have hsearch : searching t := ⟨.inl hseek, (waitsOn_inReset hwaits).trans h.running⟩
  obtain ⟨x, hx, hwaits', hne, hcount'⟩ := takeBytes_cutShort hsearch (.inl ⟨hseek, hcut⟩)
  refine ⟨x, ?_, waitsOn_trans hwaits hwaits', hne, by rw [hcount', hcount, hzero, Nat.zero_add]⟩
  exact (takeBytes_append ht (takesRx_of_searching hsearch)).trans hx

/-- The cause a wait that ends in EOS or RXERR fails with (43_sequencer.md R236). -/
def Wait.cause (w : Wait) : Code := if w.ending = .eos then .eos else .rxErr

theorem takeEvent_ending {s u : State} {w : Wait} (hw : w.unanswered s) (hop : u.op = .send) (hrx : u.rxst ≠ .idle) :
    takeEvent w.ending u = .next (attemptFailed w.cause (stopPorts u)) := by
  obtain ⟨-, -, -, hend | hend⟩ := hw
  · rw [Wait.cause, if_pos hend, hend, takeEvent_eos hrx, endReceive_send_of_ne_ok hop (by decide)]
  · rw [Wait.cause, if_neg (by rw [hend]; decide), hend, takeEvent_rxErr hrx, endReceive_send_of_ne_ok hop (by decide)]

theorem length_offered (w : Wait) : w.offered.length = w.bytes.length + 1 := by
  rw [Wait.offered, List.length_append, length_events, List.length_singleton]

/-- RXSRC's turns through such a wait fail the attempt with the cause of its end. -/
theorem runSteps_unanswered {s u : State} {k j : Nat} {w : Wait} {q : List RxEvent} {rest : List Turn}
    (h : State.SendOf s k j u) (hst : u.rxst = .seek1) (hzero : u.irrCount = 0) (hw : w.unanswered s)
    (hagenda : u.agenda = List.replicate w.offered.length .rx ++ rest) (hq : u.rxQ = w.offered ++ q) :
    ∃ t, runSteps w.offered.length u = .next (attemptFailed w.cause t) ∧ State.SendOf s k j t ∧
      t.irrCount.toNat = w.frames.length ∧ t.agenda = rest ∧ t.rxQ = q := by
  rw [length_offered, List.replicate_succ', List.append_assoc, List.singleton_append] at hagenda
  rw [Wait.offered, List.append_assoc, List.singleton_append] at hq
  obtain ⟨t, ht, hwaits, hne, hcount⟩ := takeBytes_unanswered (sendOf_onPorts h (.rx :: rest) (w.ending :: q)) hst hzero hw
  have hsend := sendOf_of_waitsOn (sendOf_onPorts h (.rx :: rest) (w.ending :: q)) hwaits
  have hlast : step t = .next (attemptFailed w.cause (stopPorts (onPorts rest q t))) :=
    (step_rx (waitsOn_agenda hwaits) (waitsOn_rxQ hwaits) hne hsend.running).trans
      (takeEvent_ending (u := onPorts rest q t) hw hsend.op hne)
  refine ⟨stopPorts (onPorts rest q t), ?_, sendOf_of_waitsOn (sendOf_onPorts hsend rest q) ⟨rfl⟩, hcount, rfl, rfl⟩
  rw [length_offered, runSteps_add ((runSteps_rx hagenda hq).trans ht), runSteps, hlast]
  rfl

/-! Rows of attempts. -/

/-- The turns of an attempt whose bytes are all accepted, and of its wait. -/
def attemptTurns (s : State) (w : Wait) : List Turn :=
  List.replicate (s.txLen.toNat + 7) (Turn.tx .accept) ++ List.replicate w.offered.length Turn.rx

/-- An attempt with no acknowledgement fails with the cause of its wait. -/
theorem runSteps_attemptTurns {s u : State} {k : Nat} {w : Wait} {q : List RxEvent} {rest : List Turn}
    (h : State.AttemptOf s k u) (hl : 1 ≤ s.txLen.toNat) (hw : w.unanswered s)
    (hagenda : u.agenda = attemptTurns s w ++ rest) (hq : u.rxQ = w.offered ++ q) :
    ∃ t, runSteps (attemptTurns s w).length u = .next (attemptFailed w.cause t) ∧ State.SendOf s (k + 1) (k + 1) t ∧
      t.irrCount.toNat = w.frames.length ∧ t.agenda = rest ∧ t.rxQ = q := by
  rw [attemptTurns, List.append_assoc] at hagenda
  obtain ⟨v, hsend, hv, hst, hzero, hagendav, hqv⟩ := runSteps_attempt h hl hagenda
  obtain ⟨t, hwait, ht⟩ := runSteps_unanswered hv hst hzero hw hagendav (hqv.trans hq)
  refine ⟨t, ?_, ht⟩
  rw [attemptTurns, List.length_append, List.length_replicate, List.length_replicate, runSteps_add hsend, hwait]

/-- With no acknowledgement the attempts follow one another up to the last, which ends the SEND (43_sequencer.md R245). -/
theorem runSteps_unansweredAttempts {s u : State} {k : Nat} {waits : List Wait} {last : Wait} {q : List RxEvent}
    {rest : List Turn} (h : State.AttemptOf s k u) (hl : 1 ≤ s.txLen.toNat) (hw : ∀ w ∈ waits ++ [last], w.unanswered s)
    (hmax : k + 1 + waits.length = s.maxAttempts.toNat)
    (hagenda : u.agenda = ((waits ++ [last]).map (attemptTurns s)).flatten ++ rest)
    (hq : u.rxQ = ((waits ++ [last]).map Wait.offered).flatten ++ q) :
    ∃ t, runSteps ((waits ++ [last]).map (attemptTurns s)).flatten.length u =
        .next (complete .exceeded last.cause (recordCause last.cause t)) ∧
      State.SendOf s s.maxAttempts.toNat s.maxAttempts.toNat t ∧ t.irrCount.toNat = last.frames.length ∧
      t.agenda = rest ∧ t.rxQ = q := by
  induction waits generalizing u k with
  | nil =>
    have hmax : k + 1 = s.maxAttempts.toNat := hmax
    simp only [List.nil_append, List.map_cons, List.map_nil, List.flatten_singleton] at hagenda hq ⊢
    obtain ⟨t, hrun, hsend, ht⟩ := runSteps_attemptTurns h hl (hw last (List.mem_singleton_self last)) hagenda hq
    rw [hmax] at hsend
    exact ⟨t, hrun.trans (congrArg Host.Outcome.next (attemptFailed_of_none_left hsend last.cause (Nat.le_refl _))), hsend, ht⟩
  | cons w waits ih =>
    rw [List.length_cons] at hmax
    simp only [List.cons_append, List.map_cons, List.flatten_cons, List.append_assoc] at hagenda hq ⊢
    obtain ⟨hwhead, hwtail⟩ := List.forall_mem_cons.mp hw
    obtain ⟨v, hrun, hsend, -, hagendav, hqv⟩ := runSteps_attemptTurns h hl hwhead hagenda hq
    obtain ⟨t, hrest, ht⟩ := ih (attemptOf_attemptFailed hsend w.cause (by omega)) hwtail (by omega)
      ((attemptFailed_agenda w.cause v).trans hagendav) ((attemptFailed_rxQ w.cause v).trans hqv)
    refine ⟨t, ?_, ht⟩
    rw [List.length_append, runSteps_add hrun, hrest]

/-- Settles O48: the write begins the first attempt, and each wait fails its attempt. -/
theorem silentDeviceExhaustsAttempts : Obligations.SilentDeviceExhaustsAttempts := by
  intro s v waits last q turns rest hrun hidle hl hv hw hmax hturns hagenda hq
  subst hturns
  obtain ⟨u, hwrite, hu, hagendau, hqu⟩ := step_wrCmd_send hrun hidle hl hv (by omega) hagenda
  obtain ⟨t, hattempts, hsend, hcount, hagendat, hqt⟩ := runSteps_unansweredAttempts hu hl hw (by omega) hagendau
    (hqu.trans hq)
  refine ⟨complete .exceeded last.cause (recordCause last.cause t), ?_, rfl, rfl, rfl, rfl, ?_, hcount, hqt, hagendat,
    hsend.sent⟩
  · rw [List.length_cons, runSteps, hwrite]
    exact hattempts
  · rw [complete_attempts, recordCause_attempts]
    exact BitVec.eq_of_toNat_eq hsend.attempts

end Sys2Proof.Claims
end
